-- ==== Sys2Proof/Word.lean ====
section
/-! DEFINITION. The plain values the engine works on: bytes, pixel values, rectangles and extents. -/

namespace Sys2Proof

/-- One byte of the pixel store, of a frame, or of a panel bus command. -/
abbrev Byte := BitVec 8

/-- A pixel value held as two bits whatever the depth of the plane it is applied to (R24). -/
abbrev Px := BitVec 2

/-- A rectangle (x, y, w, h): top-left pixel, width and height (section 0.6, R113). -/
structure Rect where
  x : Nat
  y : Nat
  w : Nat
  h : Nat
  deriving DecidableEq, Repr

/-- An extent of the pixel store: first block and block count (section 1.1.1). -/
structure Extent where
  first : Nat
  count : Nat
  deriving DecidableEq, Repr

end Sys2Proof
end

