-- ==== Sys2Proof/Syntax.lean ====
section
/-! DEFINITION. The commands of the LC-212: one constructor for each row of spec/opcode_table.json,
with the operands that come from outside the part (a byte on HRX, the strap levels, the ID byte on PDI,
the port a pin or a timer belongs to). A request row has no operand of its own: the request's fields are
the body of the frame that waits in its intake slot (R157). -/

namespace Sys2Proof

/-- The two panel ports (Chapter 7). -/
inductive Port where
  /-- Port A, with PSELA and PBUSYA. -/
  | a
  /-- Port B, with PSELB and PBUSYB. -/
  | b
  deriving DecidableEq, Repr

/-- Which of two things that fall together when a port leaves STREAMING is taken first; R17 and R46
allow either (log entry 4). -/
inductive BoundaryOrder where
  /-- The job engine's examination of its head (or a waiting PACK's look at the layout lock). -/
  | jobFirst
  /-- The arbiter's next grant and the start of streaming that it may bring. -/
  | portFirst
  deriving DecidableEq, Repr

/-- Which of two things that fall together at the end of a RESET's reply is taken first; R161 allows
either (log entry 5). -/
inductive ReplyEndOrder where
  /-- The transmitter chooses its next frame before the reset takes effect. -/
  | transmitterFirst
  /-- The reset takes effect first, and the transmitter chooses against the state it leaves. -/
  | resetFirst
  deriving DecidableEq, Repr

/-- The operations and events of spec/opcode_table.json, in the table's order. -/
inductive Instr where
  /-- FRAME_RECEIVED: the second CHECK byte of a frame arrives. -/
  | frameReceived (check : Byte)
  /-- FRAME_GAP_TIMEOUT: 20 ms inside a frame with no further byte. -/
  | frameGapTimeout
  /-- LINK_BREAK: HRX at the break level for 2 ms. -/
  | linkBreak
  /-- POWER_ON_RESET, with the levels of RATE1 and RATE0 that it samples. -/
  | powerOnReset (rate1 rate0 : Bool)
  /-- UNKNOWN_KIND: the handler takes a request of an unassigned kind. -/
  | unknownKind
  | ping
  | reset
  /-- ENGINE_RESET: an answered RESET naming ENGINE takes effect. -/
  | engineReset
  /-- FULL_RESET: an answered RESET naming FULL takes effect. -/
  | fullReset
  | ack
  | resync
  | newPlane
  /-- NEW_PLANE_FILL_END: the fill of a new plane completes. -/
  | newPlaneFillEnd
  | freePlane
  | planeInfo
  | storeInfo
  | setPattern
  | getPattern
  | submit
  | cancel
  | flush
  | queueInfo
  | data
  /-- FILL_ROW_END: the ACTIVE FILL completes a row. -/
  | fillRowEnd
  /-- BLOCK_ROW_END: the ACTIVE BLOCK completes a row. -/
  | blockRowEnd
  /-- LOAD_ROW_END: the ACTIVE LOAD completes a row. -/
  | loadRowEnd
  /-- TEXT_ROW_END: the ACTIVE TEXT completes a row. -/
  | textRowEnd
  /-- DATA_TIMEOUT: the data timer expires. -/
  | dataTimeout
  /-- EXTENT_MOVE: PACK completes the move of one extent. -/
  | extentMove
  | newFont
  | glyph
  | dropFont
  | fontInfo
  | configurePanel
  | releasePanel
  | clearFault
  | panelInfo
  /-- QUERY: the driver query completes with the ID byte read on PDI. -/
  | query (id : Byte)
  /-- WINDOW: a WINDOW transaction completes. -/
  | window
  /-- PIXELS: a PIXELS transaction completes. -/
  | pixels
  /-- UPDATE: the UPDATE transaction ends. -/
  | update (order : BoundaryOrder)
  /-- ABORT: the ABORT transaction ends. -/
  | abort (order : BoundaryOrder)
  /-- BUSY_LINE_FALL: the busy line of a port passes from high to low. -/
  | busyLineFall (p : Port)
  /-- BUSY_TIMER_EXPIRY: the busy timer of a port expires. -/
  | busyTimerExpiry (p : Port)
  /-- HOLD_OFF_TIMER_EXPIRY: the hold-off timer of a port expires. -/
  | holdOffTimerExpiry (p : Port)
  /-- REPLY_FRAME_SENT: the transmitter finishes a reply frame. -/
  | replyFrameSent (order : ReplyEndOrder)
  /-- NOTICE_FRAME_SENT: the transmitter finishes a notice frame. -/
  | noticeFrameSent
  /-- RETRANSMISSION_TIMER_EXPIRY: the retransmission timer expires. -/
  | retransmissionTimerExpiry
  /-- BYTE_RECEIVED: a character arrives on HRX; `stopBit` is false when its stop bit is at the break
  level (R151). -/
  | byteReceived (value : Byte) (stopBit : Bool)
  /-- BUSY_LINE_RISE: a driver raises its busy line. -/
  | busyLineRise (p : Port)
  deriving DecidableEq, Repr

end Sys2Proof
end

