-- ==== Sys2Proof/Decode.lean ====
section
/-! DEFINITION. The commands a word spells by the bits of spec/opcode_table.json. -/

namespace Sys2Proof

/-- No row of spec/opcode_table.json gives bits (every row's "fields" is empty and none has "fixed"): the
rows are operations and events, not words, so no word spells a command (log entry 3). The frames that
carry requests are decoded by the receiver (R152, R153) and the request handler (R164). -/
def decodeTableWord (_nbits _w : Nat) : Option Instr := none

end Sys2Proof
end

