-- ==== Sys2Proof/Config.lean ====
section
/-! DEFINITION. What is fixed for the part: the sizes the manual states, and the one value it leaves
unspecified (the content of the pixel store after power-on). -/

namespace Sys2Proof.Config

/-- Bytes of a block (R1). -/
def blockBytes : Nat := 256

/-- Highest plane handle (R6). -/
def maxHandle : Nat := 24

/-- Capacity of the job queue (R39). -/
def jobCapacity : Nat := 32

/-- Capacity of the staging buffer in bytes (R72). -/
def stagingCapacity : Nat := 4096

/-- Interval of the data timer in milliseconds (R78). -/
def dataTimeoutMs : Nat := 500

/-- Capacity of the glyph index (R88). -/
def glyphCapacity : Nat := 512

/-- Entries of a damage list (R113). -/
def damageCapacity : Nat := 8

/-- Capacity of the notice queue (R139). -/
def noticeCapacity : Nat := 16

/-- Notices that may be OUTSTANDING at once (R142, R143). -/
def noticeWindow : Nat := 4

/-- Retransmissions before the notice unit stalls (R144). -/
def maxRetries : Nat := 3

/-- Interval of the retransmission timer in milliseconds (R142). -/
def retransmitMs : Nat := 1000

/-- Intake slots (R154). -/
def slotCount : Nat := 4

/-- Capacity of the reply cache (R156). -/
def cacheCapacity : Nat := 8

/-- Longest frame body in bytes (R152). -/
def maxBody : Nat := 1024

/-- Hold-off selected by a CONFIGURE_PANEL hold-off of 0, in milliseconds (R108). -/
def defaultHoldOff : Nat := 200

/-- Ghost limit selected by a CONFIGURE_PANEL ghost limit of 255 (R108). -/
def defaultGhostLimit : Nat := 8

/-- Busy timeout selected by a CONFIGURE_PANEL busy timeout of 0, in milliseconds (R108). -/
def defaultBusyTimeout : Nat := 4000

/-- FREE VALUE (log entry 2). The content of a byte of the pixel store that nothing has written since
the power-on reset counted `powerOns`: R1 says it is unspecified, so nothing can be proved of it. -/
opaque unspecifiedByte (powerOns : Nat) (addr : Nat) : Byte

end Sys2Proof.Config
end

