-- ==== Sys2Proof/Machine/State.lean ====
section
/-! DEFINITION. Everything the manual gives the LC-212 to hold, as plain data, and its values right after a
power-on reset. -/

namespace Sys2Proof.Machine

/-! ## Common values -/

/-- A timer of the part: stopped, or running since it was last started at an interval in milliseconds.
The manual states no behaviour in clock cycles (section 0.6): a timer's expiry is a command. -/
inductive Timer where
  | stopped
  | running (ms : Nat)
  deriving DecidableEq, Repr

/-- The statuses of replies and of job ends, with the codes of Table 11-3. -/
inductive Status where
  | ok | deferred | okNoChange | okMissing
  | unknownKind | badLength | badValue
  | noHandle | noSpace | noSuchPlane | retiring | inUse | packing | depthMismatch | outOfBounds
  | queueFull | noSuchJob | notExpected | tooLong | wait
  | fontExists | noSuchFont | fontFull | glyphTableFull
  | portBusy | notConfigured | noDriver | notInFault | badAck
  | dataTimeout | noFont | portFault
  deriving DecidableEq, Repr

/-- A reply: its status and the items that follow LINKFLAGS, as bytes (section 11.4). The link flags are
no part of it: they are filled in when its frame is begun (R153, R156). -/
structure Reply where
  status : Status
  items : List Byte
  deriving DecidableEq, Repr

/-! ## Store manager and pattern table (Chapters 1 and 2) -/

/-- Plane states (Table 1-2). -/
inductive PlaneState where
  | free | live | retiring
  deriving DecidableEq, Repr

/-- A plane record (Table 1-1); its handle is its position in the plane table. -/
structure Plane where
  state : PlaneState
  width : Nat
  height : Nat
  depth : Nat
  stride : Nat
  extent : Extent
  refCount : Nat
  boundA : Bool
  boundB : Bool
  releaseDue : Bool
  deriving DecidableEq, Repr

/-- The values of a FREE record (R6). -/
def freePlaneRecord : Plane :=
  { state := .free, width := 0, height := 0, depth := 0, stride := 0, extent := ⟨0, 0⟩, refCount := 0,
    boundA := false, boundB := false, releaseDue := false }

/-- A pattern: 64 pixel values, row by row (R32). -/
abbrev Pattern := Vector Px 64

/-- A pattern of 64 zeros (R36). -/
def zeroPattern : Pattern := Vector.replicate 64 0

/-! ## Fonts (Chapter 6) -/

/-- Font states (Table 6-1). -/
inductive FontState where
  | undefined | defined
  deriving DecidableEq, Repr

/-- A font record (Table 6-1); its id is its position. -/
structure Font where
  state : FontState
  extent : Extent
  usedBytes : Nat
  lineHeight : Nat
  fallback : Nat
  glyphCount : Nat
  deriving DecidableEq, Repr

/-- The values of an UNDEFINED record (R87). -/
def undefinedFont : Font :=
  { state := .undefined, extent := ⟨0, 0⟩, usedBytes := 0, lineHeight := 0, fallback := 0, glyphCount := 0 }

/-- A glyph record (Table 6-2). -/
structure Glyph where
  font : Nat
  code : Nat
  width : Nat
  height : Nat
  advance : Nat
  xOffset : Int
  yOffset : Int
  offset : Nat
  length : Nat
  deriving DecidableEq, Repr

/-- A resolved glyph placed on the destination plane: the top-left corner of its box, unclipped, and the
copy of its record (R97, R98). -/
structure PlacedGlyph where
  left : Int
  top : Int
  glyph : Glyph
  deriving DecidableEq, Repr

/-! ## Jobs (Chapters 3 to 6) -/

/-- Source kinds (Table 2-3). -/
inductive SourceKind where
  | const | pattern | plane | planeAndPattern
  deriving DecidableEq, Repr

/-- The fields FILL and BLOCK share (Table 4-1). The function is its truth table (R25). -/
structure DrawFields where
  dest : Nat
  rect : Rect
  source : SourceKind
  constant : Px
  pattern : Nat
  fn : BitVec 4
  deriving DecidableEq, Repr

/-- A job's kind with its kind-specific fields (Table 3-3), and a LOAD's two sizes (Table 5-1). -/
inductive JobBody where
  | fill (d : DrawFields)
  | block (d : DrawFields) (srcPlane sx sy : Nat)
  | load (dest : Nat) (rect : Rect) (fn : BitVec 4) (totalBytes bytesReceived : Nat)
  | text (dest font : Nat) (penX baselineY : Int) (ink : Px) (fn : BitVec 4) (codes : List Nat)
  | showPort (port : Port) (forceFull : Bool)
  | pack
  | mark (label : Nat)
  deriving DecidableEq, Repr

/-- Job states (Table 3-2). -/
inductive JobState where
  | queued | held | active | awaitingData
  deriving DecidableEq, Repr

/-- What a job fixes when it becomes ACTIVE (R47): its pattern copy (R35), the source values of a BLOCK,
row by row (R30, R62), and the resolved glyphs and missing count of a TEXT (R97). -/
structure Fixed where
  pattern : Option Pattern
  source : List (List Px)
  glyphs : List PlacedGlyph
  missing : Nat
  deriving DecidableEq, Repr

/-- A job that has not become ACTIVE has fixed nothing (R45). -/
def nothingFixed : Fixed := { pattern := none, source := [], glyphs := [], missing := 0 }

/-- A job record (Table 3-1). -/
structure Job where
  number : Nat
  body : JobBody
  report : Bool
  state : JobState
  rowsDone : Nat
  fixed : Fixed
  deriving DecidableEq, Repr

/-- The write hold: a plane and a rectangle of it (R46). -/
structure Hold where
  plane : Nat
  rect : Rect
  deriving DecidableEq, Repr

/-! ## Panel ports and panel bus (Chapters 7 and 8) -/

/-- Refresh waveforms (R126). -/
inductive Waveform where
  | partialWave | fullWave
  deriving DecidableEq, Repr

/-- A refresh set: the waveform and the rectangles, in window coordinates (R127). -/
structure RefreshSet where
  waveform : Waveform
  rects : List Rect
  deriving DecidableEq, Repr

/-- The four waits of a PENDING port (R119). A port in the bus wait is a port with a claim on the bus. -/
inductive Wait where
  | bus | lock | busy | hold
  deriving DecidableEq, Repr

/-- The command a STREAMING port has on the panel bus, and what is left to send after it (R131): a WINDOW
with the rectangles behind it; a PIXELS with its rectangle, its row and the bytes it carries; UPDATE; or
the ABORT of a reset (R137, R138). -/
inductive StreamCommand where
  | window (r : Rect) (rest : List Rect)
  | pixels (r : Rect) (row : Nat) (bytes : List Byte) (rest : List Rect)
  | update
  | abort
  deriving DecidableEq, Repr

/-- Fault causes other than none, which a port outside FAULT has (R104). -/
inductive FaultCause where
  | busyStuck | busyTimeout
  deriving DecidableEq, Repr

/-- Port states (Table 8-1), each with the working fields that exist in that state alone: the wait of
PENDING; the refresh set, the command in progress and, after a reset, the mark that makes the port end
with ABORT, of STREAMING; the refresh set and its abandoned mark (R138) of SETTLING; the fault cause. -/
inductive PortState where
  | unconfigured
  | idle
  | pending (wait : Wait)
  | streaming (set : RefreshSet) (cmd : StreamCommand) (aborting : Bool)
  | settling (set : RefreshSet) (abandoned : Bool)
  | fault (cause : FaultCause)
  deriving DecidableEq, Repr

/-- Port modes (Table 7-1). -/
inductive PortMode where
  | manual | auto
  deriving DecidableEq, Repr

/-- A port record (Table 7-1). A bound plane of 0 is none. -/
structure PortRec where
  state : PortState
  width : Nat
  height : Nat
  depth : Nat
  boundPlane : Nat
  ox : Nat
  oy : Nat
  mode : PortMode
  holdOff : Nat
  ghostLimit : Nat
  busyTimeout : Nat
  driverId : Nat
  ghostCount : Nat
  damage : List Rect
  whole : Bool
  force : Bool
  again : Bool
  holdOffTimer : Timer
  busyTimer : Timer
  deriving DecidableEq, Repr

/-- The values of an UNCONFIGURED port (R104). -/
def unconfiguredPort : PortRec :=
  { state := .unconfigured, width := 0, height := 0, depth := 0, boundPlane := 0, ox := 0, oy := 0,
    mode := .manual, holdOff := 0, ghostLimit := 0, busyTimeout := 0, driverId := 0, ghostCount := 0,
    damage := [], whole := false, force := false, again := false, holdOffTimer := .stopped,
    busyTimer := .stopped }

/-- The owner of the panel bus (R130). -/
inductive BusOwner where
  | none
  | port (p : Port)
  | query
  deriving DecidableEq, Repr

/-- The panel bus arbiter (R130). Its waiting claims are the ports in the bus wait and the request in hand
that waits for its driver query. -/
structure Bus where
  owner : BusOwner
  last : Option Port
  deriving DecidableEq, Repr

/-! ## Notice unit (Chapter 9) -/

/-- Causes of a STARTED notice (Table 9-3). -/
inductive StartCause where
  | power | resetFull | resetEngine | linkBroken
  deriving DecidableEq, Repr

/-- Job kinds as a JOB_END and QUEUE_INFO name them (Table 11-4). -/
inductive JobKind where
  | fill | block | load | text | showPort | pack | mark
  deriving DecidableEq, Repr

/-- Kind and content of a notice (Table 9-3). -/
inductive NoticeContent where
  | started (cause : StartCause)
  | jobEnd (number : Nat) (kind : JobKind) (status : Status) (rowsDone missing label : Nat)
  | refreshEnd (port : Port) (waveform : Waveform) (rects ghostCount : Nat)
  | panelFault (port : Port) (cause : FaultCause)
  | planeReleased (handle : Nat)
  deriving DecidableEq, Repr

/-- States of a notice (Table 9-2). -/
inductive NoticeState where
  | waiting | outstanding
  deriving DecidableEq, Repr

/-- A notice in the queue (Table 9-2). -/
structure Notice where
  content : NoticeContent
  state : NoticeState
  seq : Option (BitVec 8)
  resendDue : Bool
  lostMark : Bool
  deriving DecidableEq, Repr

/-- States of the notice unit (Table 9-1). -/
inductive UnitState where
  | sending | stalled
  deriving DecidableEq, Repr

/-- The notice unit (Table 9-1). -/
structure NoticeUnit where
  queue : List Notice
  counter : BitVec 8
  state : UnitState
  retries : Nat
  timer : Timer
  lost : Bool
  deriving DecidableEq, Repr

/-! ## Host link and request handler (Chapter 10) -/

/-- Host link rates (Table 10-1). -/
inductive LinkRate where
  | bps57600 | bps115200 | bps460800 | bps1000000
  deriving DecidableEq, Repr

/-- The frame receiver with what it keeps of the frame so far (R152): LENGTH with the high byte of LEN,
HEADER with LEN and KIND, BODY with the bytes received, CHECK with the high byte of CHECK. -/
inductive Receiver where
  | hunt
  | length (high : Option Byte)
  | header (len : Nat) (kind : Option Byte)
  | body (len : Nat) (kind tag : Byte) (got : List Byte)
  | check (kind tag : Byte) (body : List Byte) (high : Option Byte)
  deriving DecidableEq, Repr

/-- The three link flags (R153). -/
structure LinkFlags where
  framing : Bool
  checkFail : Bool
  overrun : Bool
  deriving DecidableEq, Repr

/-- What a slot that is not FREE holds (R154): a request's body (HELD), or the reply to be sent and whether
its frame has begun (ANSWERED). -/
inductive SlotContent where
  | held (body : List Byte)
  | answered (reply : Reply) (begun : Bool)
  deriving DecidableEq, Repr

/-- An intake slot that is not FREE. `inHand` marks the slot the request handler is working on. -/
structure Slot where
  tag : Byte
  kind : Byte
  inHand : Bool
  content : SlotContent
  deriving DecidableEq, Repr

/-- An entry of the reply cache (R156). -/
structure CacheEntry where
  tag : Byte
  kind : Byte
  reply : Reply
  deriving DecidableEq, Repr

/-- The frame the transmitter is sending (R159): a reply, with the tag and kind of its request and the link
flags filled in when it was begun, or a notice, with its number and its LOST item (R166). -/
inductive Sending where
  | reply (tag kind : Byte) (reply : Reply) (flags : LinkFlags)
  | notice (seq : BitVec 8) (content : NoticeContent) (lost : Bool)
  deriving DecidableEq, Repr

/-- The kinds of reset a RESET names (R161). -/
inductive ResetKind where
  | engine | full
  deriving DecidableEq, Repr

/-- The fields of a CONFIGURE_PANEL that has passed its checks 1 to 5 (R106), as sent. -/
structure PanelRequest where
  port : Port
  width : Nat
  height : Nat
  depth : Nat
  handle : Nat
  ox : Nat
  oy : Nat
  mode : PortMode
  holdOff : Nat
  ghostLimit : Nat
  busyTimeout : Nat
  deriving DecidableEq, Repr

/-- What occupies the request handler beyond one event (R157). -/
inductive Work where
  /-- NEW_PLANE: the fill of the plane with this handle (R11). -/
  | fill (handle : Nat) (value : Px)
  /-- CANCEL: the stop of this job at its next boundary (R52). -/
  | cancel (number : Nat)
  /-- FLUSH: the stop of the head at its next boundary, with the counts the reply carries (R54). -/
  | flush (count first last : Nat)
  /-- CONFIGURE_PANEL: the driver query, waiting for the bus or on it (R107). -/
  | query (request : PanelRequest)
  /-- RESET: answered OK, its reply not yet sent in full (R161). -/
  | resetReply (kind : ResetKind)
  /-- RESET: its reply sent in full, the reset not yet taken effect (R161). -/
  | resetDue (kind : ResetKind)
  /-- An ENGINE reset waiting for the active job's next boundary (R57). -/
  | engineStopping
  /-- A FULL reset waiting for a STREAMING port or for a frame under way on HTX (R137, R149). -/
  | fullWaiting
  deriving DecidableEq, Repr

/-- The host link. Slots that are not FREE stand in order of arrival, cache entries in order of entry, the
oldest first; the rest of the four slots is FREE. -/
structure Link where
  rate : LinkRate
  receiver : Receiver
  flags : LinkFlags
  slots : List Slot
  cache : List CacheEntry
  sending : Option Sending
  work : Option Work
  deriving DecidableEq, Repr

/-! ## The whole part -/

/-- The state of the LC-212. -/
structure State where
  /-- Bytes of the pixel store that have been written since power-on, addresses strictly rising (R1). -/
  mem : List Host.Cell
  /-- The free extent list (R2). -/
  freeList : List Extent
  /-- The plane table, handles 1 to 24 (R6). -/
  planes : Vector Plane 24
  /-- The layout lock, held by PACK (R17). -/
  layoutLock : Bool
  /-- The pattern table (R32). -/
  patterns : Vector Pattern 16
  /-- The job queue, head first (R39). -/
  jobs : List Job
  /-- The job number counter (R38). -/
  jobCounter : Nat
  /-- The write hold (R46). -/
  writeHold : Option Hold
  /-- The staging buffer (R72). -/
  staging : List Byte
  /-- The data timer (R78). -/
  dataTimer : Timer
  /-- The font records, ids 0 to 3 (R87). -/
  fonts : Vector Font 4
  /-- The glyph index, by font and then by code (R88). -/
  glyphs : List Glyph
  /-- Panel port A (Table 7-1). -/
  portA : PortRec
  /-- Panel port B (Table 7-1). -/
  portB : PortRec
  /-- The panel bus arbiter (R130). -/
  bus : Bus
  /-- The notice unit (Table 9-1). -/
  notices : NoticeUnit
  /-- The host link and request handler (Table 10-2). -/
  link : Link
  /-- Level of PBUSYA: true is high (Table 0-2). -/
  busyLineA : Bool
  /-- Level of PBUSYB: true is high (Table 0-2). -/
  busyLineB : Bool
  /-- The MODEL's own count of power-on resets: it picks the free value of unwritten bytes (log entry 2). -/
  powerOns : Nat
  /-- The MODEL's own queue of waiting commands, first in, first out. -/
  pending : List Instr
  deriving DecidableEq, Repr

/-- Nothing the manual describes makes the part stop: an event that cannot occur in a state changes nothing
(log entry 1), and every request is answered. So there is no fault, and no command raises one. -/
inductive Fault where
  deriving DecidableEq, Repr

/-- Why a command has no meaning. -/
inductive Refusal where
  /-- Raised by `exec` alone, for a command the model gives no meaning; safe, as nothing is then claimed of
  it. No arm raises it at present. -/
  | notModelled (mnemonic : String)
  deriving DecidableEq, Repr

/-- The notice unit with one STARTED notice in its queue, not yet sent (R149). -/
def startedUnit (cause : StartCause) : NoticeUnit :=
  { queue := [{ content := .started cause, state := .waiting, seq := none, resendDue := false, lostMark := false }],
    counter := 0, state := .sending, retries := 0, timer := .stopped, lost := false }

/-- The machine right after a power-on reset: every block at its power-on values, and the transmitter sending
the STARTED (POWER) notice with number 0, which it begins at once (R163). The strap levels (both low), the
levels of the busy lines (both low) and the model's own fields are DESIGN CHOICES, log entries 6 and 2; that the
frame has begun is log entry 25. -/
def State.reset : State :=
  { mem := []
    freeList := [⟨0, 1536⟩]
    planes := Vector.replicate 24 freePlaneRecord
    layoutLock := false
    patterns := Vector.replicate 16 zeroPattern
    jobs := []
    jobCounter := 1
    writeHold := none
    staging := []
    dataTimer := .stopped
    fonts := Vector.replicate 4 undefinedFont
    glyphs := []
    portA := unconfiguredPort
    portB := unconfiguredPort
    bus := { owner := .none, last := none }
    notices :=
      { queue := [{ content := .started .power, state := .outstanding, seq := some 0, resendDue := false,
                    lostMark := false }],
        counter := 1, state := .sending, retries := 0, timer := .running 1000, lost := false }
    link :=
      { rate := .bps57600, receiver := .hunt, flags := ⟨false, false, false⟩, slots := [], cache := [],
        sending := some (.notice 0 (.started .power) false), work := none }
    busyLineA := false
    busyLineB := false
    powerOns := 0
    pending := [] }

end Sys2Proof.Machine
end

