-- ==== Sys2Proof/Machine/Ops.lean ====
section
/-! DEFINITION. Named operations over the pixel store, the free extent list and the tables. -/

namespace Sys2Proof.Machine

/-! ## The pixel store (R1) -/

/-- The canonical form of the store's content: addresses strictly rising. An unlisted address holds no value
of its own, so no entry can equal what an unlisted address reads as (log entry 2). -/
abbrev memoryWf (m : List Host.Cell) : Prop := m.Pairwise (fun c d => c.1 < d.1)

/-- What the list says of one byte: none where nothing has been written since power-on. -/
def readCell (m : List Host.Cell) (a : Nat) : Option Byte := (m.find? (fun c => c.1 == a)).map (·.2)

/-- Cells at consecutive addresses. -/
def cellsAt : Nat → List Byte → List Host.Cell
  | _, [] => []
  | a, b :: bs => (a, b) :: cellsAt (a + 1) bs

/-- Writes bytes at consecutive addresses and leaves every other byte. -/
def writeCells (m : List Host.Cell) (a : Nat) (bs : List Byte) : List Host.Cell :=
  m.filter (fun c => c.1 < a) ++ cellsAt a bs ++ m.filter (fun c => a + bs.length ≤ c.1)

/-- Reads one byte of the store; a byte nothing has written since power-on has the free value (R1). -/
def State.readByte (s : State) (a : Nat) : Byte :=
  (readCell s.mem a).getD (Config.unspecifiedByte s.powerOns a)

/-- Writes bytes of the store at consecutive addresses. -/
def State.writeBytes (s : State) (a : Nat) (bs : List Byte) : State := { s with mem := writeCells s.mem a bs }

/-- The `n` bytes of the store from an address, as they read. -/
def State.bytesFrom (s : State) (a n : Nat) : List Byte := (List.range n).map (fun i => s.readByte (a + i))

/-- Copies `n` bytes from `src` to `dst`, each of them whether or not anything has written it, as though all were
read before any is written (R1, R19). -/
def State.copyBytes (s : State) (src dst n : Nat) : State := s.writeBytes dst (s.bytesFrom src n)

/-! ## The free extent list (R2, R4, R5) -/

/-- First-fit allocation of `n` blocks (R4): the first block taken and the list left. -/
def allocate : List Extent → Nat → Option (Nat × List Extent)
  | [], _ => none
  | e :: rest, n =>
    if n ≤ e.count then
      some (e.first, if e.count = n then rest else ⟨e.first + n, e.count - n⟩ :: rest)
    else (allocate rest n).map (fun r => (r.1, e :: r.2))

/-- Return of an extent to the list, coalescing with the entries it touches (R5). -/
def releaseExtent : List Extent → Extent → List Extent
  | [], x => [x]
  | e :: rest, x =>
    if e.first + e.count = x.first then
      match rest with
      | [] => [⟨e.first, e.count + x.count⟩]
      | u :: more =>
        if x.first + x.count = u.first then ⟨e.first, e.count + x.count + u.count⟩ :: more
        else ⟨e.first, e.count + x.count⟩ :: u :: more
    else if x.first + x.count = e.first then ⟨x.first, x.count + e.count⟩ :: rest
    else if x.first < e.first then x :: e :: rest
    else e :: releaseExtent rest x

/-- The free block total (R4, R16). -/
def freeTotal (l : List Extent) : Nat := (l.map (·.count)).sum

/-- The largest free extent's block count, 0 when the list is empty (R16). -/
def largestFree (l : List Extent) : Nat := l.foldl (fun m e => max m e.count) 0

/-! ## Tables -/

/-- The record of a handle; a handle outside 1 to 24 reads as FREE. -/
def State.plane (s : State) (h : Nat) : Plane :=
  if 1 ≤ h then (s.planes[h - 1]?).getD freePlaneRecord else freePlaneRecord

/-- Replaces the record of a handle from 1 to 24. -/
def State.setPlane (s : State) (h : Nat) (p : Plane) : State :=
  if 1 ≤ h then { s with planes := s.planes.setIfInBounds (h - 1) p } else s

/-- The handles, in ascending order. -/
def allHandles : List Nat := List.range' 1 Config.maxHandle

/-- The record of a font id; an id above 3 reads as UNDEFINED. -/
def State.font (s : State) (id : Nat) : Font := (s.fonts[id]?).getD undefinedFont

/-- Replaces the record of a font id from 0 to 3. -/
def State.setFont (s : State) (id : Nat) (f : Font) : State :=
  { s with fonts := s.fonts.setIfInBounds id f }

/-- The font ids, in ascending order. -/
def allFontIds : List Nat := List.range 4

/-- A pattern table entry (R32). -/
def State.patternEntry (s : State) (i : Nat) : Pattern := (s.patterns[i]?).getD zeroPattern

/-- A port's record. -/
def State.port (s : State) (p : Port) : PortRec :=
  match p with
  | .a => s.portA
  | .b => s.portB

/-- Replaces a port's record. -/
def State.setPort (s : State) (p : Port) (r : PortRec) : State :=
  match p with
  | .a => { s with portA := r }
  | .b => { s with portB := r }

/-- The other port. -/
def otherPort : Port → Port
  | .a => .b
  | .b => .a

/-- The level of a port's busy line. -/
def State.busyLine (s : State) (p : Port) : Bool :=
  match p with
  | .a => s.busyLineA
  | .b => s.busyLineB

/-- Sets the level of a port's busy line. -/
def State.setBusyLine (s : State) (p : Port) (level : Bool) : State :=
  match p with
  | .a => { s with busyLineA := level }
  | .b => { s with busyLineB := level }

/-- Whether a plane's bindings hold a port (R9). -/
def Plane.bound (pl : Plane) (p : Port) : Bool :=
  match p with
  | .a => pl.boundA
  | .b => pl.boundB

/-- Adds a port to a plane's bindings or removes it (R9). -/
def Plane.setBound (pl : Plane) (p : Port) (v : Bool) : Plane :=
  match p with
  | .a => { pl with boundA := v }
  | .b => { pl with boundB := v }

/-! ## Jobs -/

/-- The kind of a job. -/
def JobBody.kind : JobBody → JobKind
  | .fill _ => .fill
  | .block _ _ _ _ => .block
  | .load _ _ _ _ _ => .load
  | .text _ _ _ _ _ _ _ => .text
  | .showPort _ _ => .showPort
  | .pack => .pack
  | .mark _ => .mark

/-- The planes a job names, each once (R8): its destination and, for a BLOCK, its source. -/
def JobBody.planes : JobBody → List Nat
  | .fill d => [d.dest]
  | .block d src _ _ => if src = d.dest then [d.dest] else [d.dest, src]
  | .load dest _ _ _ _ => [dest]
  | .text dest _ _ _ _ _ _ => [dest]
  | .showPort _ _ => []
  | .pack => []
  | .mark _ => []

/-- Whether a job is a LOAD. -/
def Job.isLoad (j : Job) : Bool :=
  match j.body with
  | .load _ _ _ _ _ => true
  | _ => false

/-- Whether the job engine is carrying a job out (R40). -/
def Job.running (j : Job) : Bool :=
  match j.state with
  | .active => true
  | .awaitingData => true
  | .queued => false
  | .held => false

/-- The feeding LOAD: the oldest LOAD in the queue (R73). -/
def State.feeding (s : State) : Option Job := s.jobs.find? Job.isLoad

/-- Replaces the head of the queue. -/
def State.setHead (s : State) (j : Job) : State := { s with jobs := j :: s.jobs.tail }

/-- Whether a PACK job is active: from the moment it becomes the active job until it ends (R10, R18). -/
def State.packActive (s : State) : Bool :=
  match s.jobs with
  | [] => false
  | j :: _ => decide (j.body = .pack) && decide (j.state = .active)

/-- Whether a NEW_PLANE fill is in progress (R17). -/
def State.fillInProgress (s : State) : Bool :=
  match s.link.work with
  | some (.fill _ _) => true
  | _ => false

/-- Whether a port is STREAMING. -/
def PortRec.isStreaming (r : PortRec) : Bool :=
  match r.state with
  | .streaming _ _ _ => true
  | _ => false

/-- Whether a port is PENDING in a given wait. -/
def PortRec.waits (r : PortRec) (w : Wait) : Bool := decide (r.state = .pending w)

/-- Whether a port is STREAMING (R17). -/
def State.anyStreaming (s : State) : Bool := s.portA.isStreaming || s.portB.isStreaming

end Sys2Proof.Machine
end

