-- ==== Sys2Proof/Machine/Geometry.lean ====
section
/-! DEFINITION. Rectangles and the merging rule of the damage list (R113, R115). -/

namespace Sys2Proof.Machine

/-- Area in pixels (R113). -/
def rectArea (r : Rect) : Nat := r.w * r.h

/-- Whether two rectangles have a pixel in common (R113). -/
def overlaps (r t : Rect) : Bool :=
  decide (r.x < t.x + t.w) && decide (t.x < r.x + r.w) && decide (r.y < t.y + t.h) && decide (t.y < r.y + r.h)

/-- Whether a rectangle lies inside an area of a width and a height (R113). -/
def insideArea (r : Rect) (width height : Nat) : Bool :=
  decide (r.x + r.w ≤ width) && decide (r.y + r.h ≤ height)

/-- The smallest rectangle that contains two (R113). -/
def boundingBox (r t : Rect) : Rect :=
  ⟨min r.x t.x, min r.y t.y, max (r.x + r.w) (t.x + t.w) - min r.x t.x,
    max (r.y + r.h) (t.y + t.h) - min r.y t.y⟩

/-- The pixels two rectangles have in common, if any. -/
def intersection (r t : Rect) : Option Rect :=
  if overlaps r t then
    some ⟨max r.x t.x, max r.y t.y, min (r.x + r.w) (t.x + t.w) - max r.x t.x,
      min (r.y + r.h) (t.y + t.h) - max r.y t.y⟩
  else none

/-- The bounding box of a list of rectangles, if there is one. -/
def boundingAll : List Rect → Option Rect
  | [] => none
  | r :: rest =>
    match boundingAll rest with
    | none => some r
    | some b => some (boundingBox r b)

/-- A list without its first element that satisfies a test, and that element. -/
def extractFirst {α : Type} (t : α → Bool) : List α → Option (α × List α)
  | [] => none
  | a :: rest => if t a then some (a, rest) else (extractFirst t rest).map (fun r => (r.1, a :: r.2))

/-- How much an entry would grow to take a rectangle in (R115). -/
def growth (r e : Rect) : Nat := rectArea (boundingBox r e) - rectArea e

/-- The least growth among the entries of a list (R115). -/
def leastGrowth (r : Rect) : List Rect → Nat
  | [] => 0
  | [e] => growth r e
  | e :: rest => min (growth r e) (leastGrowth r rest)

/-- A damage list with its whole flag (R113). -/
structure Damage where
  list : List Rect
  whole : Bool
  deriving DecidableEq, Repr

/-- The whole window damaged (R115, part 2). -/
def wholeDamage : Damage := { list := [], whole := true }

/-- Parts 2 to 5 of the merging rule (R115) in a window of a width and a height, on a list whose whole flag is
clear. Each turn that replaces the rectangle takes an entry away, so as many turns as entries, and one more,
are enough. -/
def mergeInto (width height : Nat) : Nat → List Rect → Rect → Damage
  | 0, list, r => { list := list ++ [r], whole := false }
  | turns + 1, list, r =>
    if r = ⟨0, 0, width, height⟩ then wholeDamage
    else
      match extractFirst (overlaps r) list with
      | some (e, rest) => mergeInto width height turns rest (boundingBox r e)
      | none =>
        if list.length < Config.damageCapacity then { list := list ++ [r], whole := false }
        else
          match extractFirst (fun e => growth r e == leastGrowth r list) list with
          | some (e, rest) => mergeInto width height turns rest (boundingBox r e)
          | none => { list := list, whole := false }

/-- The merging rule (R115). -/
def mergeDamage (width height : Nat) (d : Damage) (r : Rect) : Damage :=
  if d.whole then d else mergeInto width height (d.list.length + 1) d.list r

/-- A rectangle widened to 8-pixel column bounds (R127). -/
def widen (r : Rect) : Rect := ⟨r.x / 8 * 8, r.y, (r.x + r.w + 7) / 8 * 8 - r.x / 8 * 8, r.h⟩

/-- A rectangle moved by an origin. -/
def translate (ox oy : Nat) (r : Rect) : Rect := ⟨ox + r.x, oy + r.y, r.w, r.h⟩

end Sys2Proof.Machine
end

