-- ==== Sys2Proof/Machine/Operands.lean ====
section
/-! DEFINITION. How the fields of requests are read from a body and the items of replies and notices are
written, most significant byte first, and the numeric codes (Chapter 11, R164, R165). -/

namespace Sys2Proof.Machine

/-! ## Fields of a request body (R164) -/

/-- The unsigned field of 1 byte at an offset of a body. -/
def fieldU8 (body : List Byte) (i : Nat) : Nat := (body.getD i 0).toNat

/-- The unsigned field of 2 bytes at an offset of a body. -/
def fieldU16 (body : List Byte) (i : Nat) : Nat := fieldU8 body i * 256 + fieldU8 body (i + 1)

/-- The unsigned field of 4 bytes at an offset of a body. -/
def fieldU32 (body : List Byte) (i : Nat) : Nat := fieldU16 body i * 65536 + fieldU16 body (i + 2)

/-- The signed field of 2 bytes (s16, two's complement) at an offset of a body. -/
def fieldS16 (body : List Byte) (i : Nat) : Int :=
  if fieldU16 body i < 32768 then (fieldU16 body i : Int) else (fieldU16 body i : Int) - 65536

/-- The fields of 2 bytes each that fill a run of bytes. -/
def fieldsU16 : List Byte → List Nat
  | [] => []
  | [_] => []
  | hi :: lo :: rest => (hi.toNat * 256 + lo.toNat) :: fieldsU16 rest

/-- The rectangle of four 2-byte fields at an offset of a body. -/
def fieldRect (body : List Byte) (i : Nat) : Rect :=
  ⟨fieldU16 body i, fieldU16 body (i + 2), fieldU16 body (i + 4), fieldU16 body (i + 6)⟩

/-! ## Items of a reply or notice -/

/-- An item of 1 byte. -/
def itemU8 (n : Nat) : List Byte := [BitVec.ofNat 8 n]

/-- An item of 2 bytes. -/
def itemU16 (n : Nat) : List Byte := [BitVec.ofNat 8 (n / 256), BitVec.ofNat 8 n]

/-- An item of 4 bytes. -/
def itemU32 (n : Nat) : List Byte := itemU16 (n / 65536) ++ itemU16 n

/-- A signed item of 2 bytes. -/
def itemS16 (n : Int) : List Byte := itemU16 (n % 65536).toNat

/-- A rectangle as four items of 2 bytes. -/
def itemRect (r : Rect) : List Byte := itemU16 r.x ++ itemU16 r.y ++ itemU16 r.w ++ itemU16 r.h

/-- A truth value as an item of 1 byte (Table 11-4, flag fields). -/
def itemFlag (b : Bool) : List Byte := itemU8 (if b then 1 else 0)

/-! ## Codes (section 11.2) -/

/-- Status codes (Table 11-3). -/
def Status.code : Status → Nat
  | .ok => 0x00
  | .deferred => 0x01
  | .okNoChange => 0x02
  | .okMissing => 0x03
  | .unknownKind => 0x10
  | .badLength => 0x11
  | .badValue => 0x12
  | .noHandle => 0x20
  | .noSpace => 0x21
  | .noSuchPlane => 0x22
  | .retiring => 0x23
  | .inUse => 0x24
  | .packing => 0x25
  | .depthMismatch => 0x26
  | .outOfBounds => 0x27
  | .queueFull => 0x30
  | .noSuchJob => 0x31
  | .notExpected => 0x32
  | .tooLong => 0x33
  | .wait => 0x34
  | .fontExists => 0x38
  | .noSuchFont => 0x39
  | .fontFull => 0x3A
  | .glyphTableFull => 0x3B
  | .portBusy => 0x40
  | .notConfigured => 0x41
  | .noDriver => 0x42
  | .notInFault => 0x43
  | .badAck => 0x48
  | .dataTimeout => 0x50
  | .noFont => 0x51
  | .portFault => 0x52

/-- Request kinds (Table 11-2). -/
def kindPing : Byte := 0x01
def kindReset : Byte := 0x02
def kindAck : Byte := 0x03
def kindResync : Byte := 0x04
def kindNewPlane : Byte := 0x08
def kindFreePlane : Byte := 0x09
def kindPlaneInfo : Byte := 0x0A
def kindStoreInfo : Byte := 0x0B
def kindSetPattern : Byte := 0x0C
def kindGetPattern : Byte := 0x0D
def kindSubmit : Byte := 0x10
def kindCancel : Byte := 0x11
def kindFlush : Byte := 0x12
def kindQueueInfo : Byte := 0x13
def kindData : Byte := 0x14
def kindNewFont : Byte := 0x18
def kindGlyph : Byte := 0x19
def kindDropFont : Byte := 0x1A
def kindFontInfo : Byte := 0x1B
def kindConfigurePanel : Byte := 0x20
def kindReleasePanel : Byte := 0x21
def kindClearFault : Byte := 0x22
def kindPanelInfo : Byte := 0x23

/-- The assigned request kinds (Table 11-2). -/
def assignedKinds : List Byte :=
  [kindPing, kindReset, kindAck, kindResync, kindNewPlane, kindFreePlane, kindPlaneInfo, kindStoreInfo,
   kindSetPattern, kindGetPattern, kindSubmit, kindCancel, kindFlush, kindQueueInfo, kindData, kindNewFont,
   kindGlyph, kindDropFont, kindFontInfo, kindConfigurePanel, kindReleasePanel, kindClearFault, kindPanelInfo]

/-- Job kinds (Table 11-4). -/
def JobKind.code : JobKind → Nat
  | .fill => 1
  | .block => 2
  | .load => 3
  | .text => 4
  | .showPort => 5
  | .pack => 6
  | .mark => 7

/-- Job states (Table 11-4). -/
def JobState.code : JobState → Nat
  | .queued => 1
  | .held => 2
  | .active => 3
  | .awaitingData => 4

/-- Source kinds (Table 11-4). -/
def SourceKind.code : SourceKind → Nat
  | .const => 0
  | .pattern => 1
  | .plane => 2
  | .planeAndPattern => 3

/-- Ports (Table 11-4). -/
def portCode : Port → Nat
  | .a => 0
  | .b => 1

/-- The port a code stands for, if any (R164). -/
def portOfCode (n : Nat) : Option Port := if n = 0 then some .a else if n = 1 then some .b else none

/-- Port states (Table 11-4). -/
def PortState.code : PortState → Nat
  | .unconfigured => 0
  | .idle => 1
  | .pending _ => 2
  | .streaming _ _ _ => 3
  | .settling _ _ => 4
  | .fault _ => 5

/-- Port modes (Table 11-4). -/
def PortMode.code : PortMode → Nat
  | .manual => 0
  | .auto => 1

/-- The mode a code stands for, if any (R164). -/
def modeOfCode (n : Nat) : Option PortMode :=
  if n = 0 then some .manual else if n = 1 then some .auto else none

/-- Waveforms (Table 11-4). -/
def Waveform.code : Waveform → Nat
  | .partialWave => 0
  | .fullWave => 1

/-- Fault causes other than none (Table 11-4). -/
def FaultCause.code : FaultCause → Nat
  | .busyStuck => 1
  | .busyTimeout => 2

/-- The fault cause a port reports: 0, none, outside FAULT (R104). -/
def PortState.faultCode : PortState → Nat
  | .fault c => c.code
  | .unconfigured => 0
  | .idle => 0
  | .pending _ => 0
  | .streaming _ _ _ => 0
  | .settling _ _ => 0

/-- STARTED causes (Table 11-4). -/
def StartCause.code : StartCause → Nat
  | .power => 1
  | .resetFull => 2
  | .resetEngine => 3
  | .linkBroken => 4

/-- Plane states (Table 11-4). -/
def PlaneState.code : PlaneState → Nat
  | .free => 0
  | .live => 1
  | .retiring => 2

/-- Font states (Table 11-4). -/
def FontState.code : FontState → Nat
  | .undefined => 0
  | .defined => 1

/-- The flag a code stands for, if any (Table 11-4, flag fields; R164). -/
def flagOfCode (n : Nat) : Option Bool := if n = 0 then some false else if n = 1 then some true else none

/-! ## The rate straps (Table 10-1) -/

/-- The host link rate the straps select (R151). -/
def rateOfStraps (rate1 rate0 : Bool) : LinkRate :=
  match rate1, rate0 with
  | false, false => .bps57600
  | false, true => .bps115200
  | true, false => .bps460800
  | true, true => .bps1000000

/-- A rate in bit/s (Table 10-1). -/
def LinkRate.bitsPerSecond : LinkRate → Nat
  | .bps57600 => 57600
  | .bps115200 => 115200
  | .bps460800 => 460800
  | .bps1000000 => 1000000

end Sys2Proof.Machine
end

