-- ==== Sys2Proof/Machine/Flags.lean ====
section
/-! DEFINITION. The bit fields the part reports (Table 11-5); every bit the table shows as 0 is 0 (R164). -/

namespace Sys2Proof.Machine

/-- A byte from its bits, bit 0 first; the rest are 0. -/
def byteOfBits (b0 b1 b2 b3 b4 : Bool) : Byte :=
  BitVec.ofNat 8 (b0.toNat + 2 * b1.toNat + 4 * b2.toNat + 8 * b3.toNat + 16 * b4.toNat)

/-- All three link flags clear (R153). -/
def clearFlags : LinkFlags := ⟨false, false, false⟩

/-- LINKFLAGS: bit 0 FRAMING, bit 1 CHECKFAIL, bit 2 OVERRUN. -/
def LinkFlags.byte (f : LinkFlags) : Byte := byteOfBits f.framing f.checkFail f.overrun false false

/-- The flags byte of a notice: bit 0 LOST (R140, R166). -/
def noticeFlags (lost : Bool) : Byte := byteOfBits lost false false false false

/-- Bindings: bit 0 port A, bit 1 port B. -/
def Plane.bindingsByte (p : Plane) : Byte := byteOfBits p.boundA p.boundB false false false

/-- Whether a timer is running. -/
def Timer.isRunning : Timer → Bool
  | .stopped => false
  | .running _ => true

/-- Port flags of PANEL_INFO: whole, force, again, hold-off timer running, busy timer running. -/
def PortRec.flagsByte (r : PortRec) : Byte :=
  byteOfBits r.whole r.force r.again r.holdOffTimer.isRunning r.busyTimer.isRunning

/-- Sets FRAMING (R152). -/
def State.setFraming (s : State) : State :=
  { s with link := { s.link with flags := { s.link.flags with framing := true } } }

/-- Sets CHECKFAIL (R153). -/
def State.setCheckFail (s : State) : State :=
  { s with link := { s.link with flags := { s.link.flags with checkFail := true } } }

end Sys2Proof.Machine
end

