-- ==== Sys2Proof/Machine/NoticeUnit.lean ====
section
/-! DEFINITION. The notice unit: its queue, the window, retransmission and acknowledgement (Chapter 9). -/

namespace Sys2Proof.Machine

/-- A notice as it joins the queue: WAITING, no number, resend due and lost mark clear (R139). -/
def newNotice (c : NoticeContent) : Notice :=
  { content := c, state := .waiting, seq := none, resendDue := false, lostMark := false }

/-- Whether a notice is OUTSTANDING. -/
def Notice.isOutstanding (n : Notice) : Bool := decide (n.state = .outstanding)

/-- The number of OUTSTANDING notices. -/
def outstandingCount (q : List Notice) : Nat := (q.filter Notice.isOutstanding).length

/-- A producer hands over a notice: it joins the queue at its end, or, when the queue is full, is discarded
with LOST set (R139, R141). -/
def NoticeUnit.push (u : NoticeUnit) (c : NoticeContent) : NoticeUnit :=
  if Config.noticeCapacity ≤ u.queue.length then { u with lost := true }
  else { u with queue := u.queue ++ [newNotice c] }

/-- `NoticeUnit.push` on the whole part. -/
def State.pushNotice (s : State) (c : NoticeContent) : State := { s with notices := s.notices.push c }

/-- Applies a change to the first element that satisfies a test. -/
def updateFirst {α : Type} (t : α → Bool) (f : α → α) : List α → List α
  | [] => []
  | a :: rest => if t a then f a :: rest else a :: updateFirst t f rest

/-! ## Sending (R142) -/

/-- Whether an OUTSTANDING notice must be sent again. -/
def Notice.wantsResend (n : Notice) : Bool := n.isOutstanding && n.resendDue

/-- Whether a notice is WAITING. -/
def Notice.isWaiting (n : Notice) : Bool := decide (n.state = .waiting)

/-- The notice the unit offers a free transmitter, if any: the oldest with resend due, else the oldest WAITING
one while fewer than 4 are OUTSTANDING (R142). -/
def NoticeUnit.offer (u : NoticeUnit) : Option Notice :=
  if u.state = .stalled then none
  else
    match u.queue.find? Notice.wantsResend with
    | some n => some n
    | none =>
      if outstandingCount u.queue < Config.noticeWindow then u.queue.find? Notice.isWaiting else none

/-- The lost mark a notice carries from the send now begun (R141). -/
def NoticeUnit.markFor (u : NoticeUnit) (n : Notice) : Bool := n.lostMark || u.lost

/-- A resend is begun: resend due is cleared, the number and the counter are unchanged (R142). -/
def NoticeUnit.beginResend (u : NoticeUnit) : NoticeUnit :=
  { u with
    queue := updateFirst Notice.wantsResend
      (fun n => { n with resendDue := false, lostMark := u.markFor n }) u.queue
    lost := false }

/-- The number a WAITING notice takes as it is sent: the one RESYNC let it keep, else the counter's (R142). -/
def NoticeUnit.numberFor (u : NoticeUnit) (n : Notice) : BitVec 8 := n.seq.getD u.counter

/-- A first send (or a send after RESYNC) is begun: the notice becomes OUTSTANDING with its number; the counter
advances when the number was the counter's; the timer starts when nothing was OUTSTANDING (R142). -/
def NoticeUnit.beginWaiting (u : NoticeUnit) (n : Notice) : NoticeUnit :=
  { u with
    queue := updateFirst Notice.isWaiting
      (fun m => { m with state := .outstanding, seq := some (u.numberFor m), lostMark := u.markFor m }) u.queue
    counter := if n.seq = none then u.counter + 1 else u.counter
    timer := if outstandingCount u.queue = 0 then .running Config.retransmitMs else u.timer
    lost := false }

/-- The unit after the transmitter has begun the frame of the notice it offered (R142). -/
def NoticeUnit.begun (u : NoticeUnit) (n : Notice) : NoticeUnit :=
  if n.isOutstanding then u.beginResend else u.beginWaiting n

/-- The frame of the notice offered (R140, R166). -/
def NoticeUnit.frameFor (u : NoticeUnit) (n : Notice) : Sending :=
  .notice (u.numberFor n) n.content (u.markFor n)

/-! ## Retransmission (R144) -/

/-- The retransmission timer expires: every OUTSTANDING notice has its resend due set, or the unit enters
STALLED (R144, R146). -/
def NoticeUnit.expire (u : NoticeUnit) : NoticeUnit :=
  if u.retries < Config.maxRetries then
    { u with
      queue := u.queue.map (fun n => if n.isOutstanding then { n with resendDue := true } else n)
      retries := u.retries + 1
      timer := .running Config.retransmitMs }
  else { u with state := .stalled, timer := .stopped }

/-! ## ACK and RESYNC (R145, R147) -/

/-- Whether a notice is OUTSTANDING with a given number. -/
def Notice.outstandingAs (n : Notice) (seq : BitVec 8) : Bool := n.isOutstanding && decide (n.seq = some seq)

/-- The notices behind the one acknowledged, or none when no OUTSTANDING notice has the number (R145). -/
def afterAcked (seq : BitVec 8) : List Notice → Option (List Notice)
  | [] => none
  | n :: rest => if n.outstandingAs seq then some rest else afterAcked seq rest

/-- The unit after a valid ACK that leaves a queue (R145). -/
def NoticeUnit.acked (u : NoticeUnit) (left : List Notice) : NoticeUnit :=
  { u with
    queue := left
    retries := 0
    state := .sending
    timer := if outstandingCount left = 0 then .stopped else .running Config.retransmitMs }

/-- The number of the oldest OUTSTANDING notice, 0 when none is OUTSTANDING (R145). -/
def oldestOutstanding (q : List Notice) : BitVec 8 :=
  match q.find? Notice.isOutstanding with
  | some n => n.seq.getD 0
  | none => 0

/-- RESYNC: every OUTSTANDING notice returns to WAITING with its number (R147). -/
def NoticeUnit.resynced (u : NoticeUnit) : NoticeUnit :=
  { u with
    queue := u.queue.map (fun n =>
      if n.isOutstanding then { n with state := .waiting, resendDue := false } else n)
    retries := 0
    state := .sending
    timer := .stopped }

/-- The next sequence number RESYNC reports: the kept number of the oldest WAITING notice, else the counter's
value (R147). -/
def NoticeUnit.nextNumber (u : NoticeUnit) : BitVec 8 :=
  match u.queue.find? Notice.isWaiting with
  | some n => u.numberFor n
  | none => u.counter

/-! ## Link break and resets (R148, R149, R150) -/

/-- A link break: every notice becomes WAITING without a number, the counter becomes 0, and a STARTED (BREAK)
goes to the head, the newest notice giving way when the queue is full (R148). -/
def NoticeUnit.broken (u : NoticeUnit) : NoticeUnit :=
  { queue := newNotice (.started .linkBroken) ::
      ((u.queue.take (Config.noticeCapacity - 1)).map
        (fun n => { n with state := .waiting, seq := none, resendDue := false }))
    counter := 0
    state := .sending
    retries := 0
    timer := .stopped
    lost := u.lost || decide (Config.noticeCapacity ≤ u.queue.length) }

/-! ## Frames (R166, Tables 11-2 and 11-10) -/

/-- The kind code of a notice. -/
def NoticeContent.kindCode : NoticeContent → Byte
  | .started _ => 0x40
  | .jobEnd _ _ _ _ _ _ => 0x41
  | .refreshEnd _ _ _ _ => 0x42
  | .panelFault _ _ => 0x43
  | .planeReleased _ => 0x44

/-- The items of a notice after the flags byte. -/
def NoticeContent.items : NoticeContent → List Byte
  | .started c => itemU8 c.code
  | .jobEnd n k st rows missing label =>
    itemU16 n ++ itemU8 k.code ++ itemU8 st.code ++ itemU16 rows ++ itemU8 missing ++ itemU32 label
  | .refreshEnd p w n g => itemU8 (portCode p) ++ itemU8 w.code ++ itemU8 n ++ itemU8 g
  | .panelFault p c => itemU8 (portCode p) ++ itemU8 c.code
  | .planeReleased h => itemU8 h

end Sys2Proof.Machine
end

