-- ==== Sys2Proof/Machine/Pixels.lean ====
section
/-! DEFINITION. Pixel packing, the combine functions, and reading and writing the pixels of a plane
(Chapter 2, R1). -/

namespace Sys2Proof.Machine

/-! ## Packing (R1, section 0.6) -/

/-- Pixels of a byte at a depth: eight at depth 1, four at depth 2. -/
def pixelsPerByte (depth : Nat) : Nat := if depth = 2 then 4 else 8

/-- The i-th pixel of a byte, the leftmost in the most significant bits. -/
def pixelOfByte (depth : Nat) (b : Byte) (i : Nat) : Px :=
  if depth = 2 then BitVec.ofNat 2 (b.toNat / 4 ^ (3 - i)) else BitVec.ofNat 2 (b.toNat / 2 ^ (7 - i) % 2)

/-- A byte packed from its pixels, the leftmost in the most significant bits. At depth 1 only a pixel's low
bit is stored. -/
def packByte (depth : Nat) (f : Nat → Px) : Byte :=
  if depth = 2 then (f 0 ++ f 1 ++ f 2 ++ f 3 : BitVec 8)
  else
    BitVec.ofNat 8 ((List.range 8).foldl (fun n i => 2 * n + (f i).toNat % 2) 0)

/-! ## Combine functions (R24, R25) -/

/-- An operand of two bits brought down to a destination depth (R24). -/
def reduceTo (depth : Nat) (v : Px) : Px := if depth = 2 then v else v &&& 1

/-- One result bit: bit (s + 2d) of the function number (R25). -/
def combineBit (fn : BitVec 4) (s d : Bool) : Bool := fn.getLsbD (s.toNat + 2 * d.toNat)

/-- The combination of a source value with a destination value at a depth, bit by bit (R25). -/
def combine (depth : Nat) (fn : BitVec 4) (s d : Px) : Px :=
  BitVec.ofBool (if depth = 2 then combineBit fn (s.getLsbD 1) (d.getLsbD 1) else false)
    ++ BitVec.ofBool (combineBit fn (s.getLsbD 0) (d.getLsbD 0))

/-! ## Pixels of a plane -/

/-- Address of the first byte of a plane's row (R1). -/
def Plane.rowAddr (p : Plane) (y : Nat) : Nat := Config.blockBytes * p.extent.first + y * p.stride

/-- A pixel of a plane (R1). -/
def State.pixel (s : State) (h x y : Nat) : Px :=
  let p := s.plane h
  pixelOfByte p.depth (s.readByte (p.rowAddr y + x / pixelsPerByte p.depth)) (x % pixelsPerByte p.depth)

/-- Byte `b` of a row after the pixels of columns x to x + w − 1 have been replaced by `g column old`, and
the pixels beside them in the byte kept (R29). -/
def State.drawnByte (s : State) (h x w y : Nat) (g : Nat → Px → Px) (b : Nat) : Byte :=
  let p := s.plane h
  let n := pixelsPerByte p.depth
  packByte p.depth (fun i =>
    let d := pixelOfByte p.depth (s.readByte (p.rowAddr y + b)) i
    if x ≤ b * n + i ∧ b * n + i < x + w then g (b * n + i) d else d)

/-- Replaces the pixels of columns x to x + w − 1 of row y of a plane by `g column old` (R29). -/
def State.drawRow (s : State) (h x w y : Nat) (g : Nat → Px → Px) : State :=
  let p := s.plane h
  let n := pixelsPerByte p.depth
  s.writeBytes (p.rowAddr y + x / n)
    ((List.range' (x / n) ((x + w + n - 1) / n - x / n)).map (s.drawnByte h x w y g))

/-- The byte that holds a fill value in each of its pixels (R11). -/
def fillByte (depth : Nat) (v : Px) : Byte := packByte depth (fun _ => v)

/-- Writes a value into every pixel of a plane (R11): its first stride × height bytes. -/
def State.fillPlane (s : State) (h : Nat) (v : Px) : State :=
  let p := s.plane h
  s.writeBytes (p.rowAddr 0) (List.replicate (p.stride * p.height) (fillByte p.depth v))

/-! ## Patterns (R32) -/

/-- The pattern pixel for plane coordinates (x, y). -/
def patternPixel (pat : Pattern) (x y : Nat) : Px := (pat[y % 8 * 8 + x % 8]?).getD 0

/-- The pattern carried by 16 bytes: two bytes a row, depth-2 packing (R32). -/
def patternOfBytes (bs : List Byte) : Pattern :=
  ⟨⟨(List.range 64).map (fun i => pixelOfByte 2 (bs.getD (i / 4) 0) (i % 4))⟩, by simp⟩

/-- The 16 bytes of a pattern (R32). -/
def patternBytes (pat : Pattern) : List Byte :=
  (List.range 16).map (fun b => packByte 2 (fun i => (pat[4 * b + i]?).getD 0))

/-! ## Rows sent on the panel bus (R131) -/

/-- The bytes of `w` pixels of row y of a plane from column x, packed at a depth to the row's own bounds. -/
def State.rowBytes (s : State) (h depth x w y : Nat) : List Byte :=
  (List.range (w * depth / 8)).map (fun b =>
    packByte depth (fun i => s.pixel h (x + b * pixelsPerByte depth + i) y))

end Sys2Proof.Machine
end

