-- ==== Sys2Proof/Machine/Ports.lean ====
section
/-! DEFINITION. The panel ports' shared operations: holds, the arbiter, the examination at a grant, the
refresh set, the panel bus and the damage list (Chapters 7 and 8). -/

namespace Sys2Proof.Machine

/-! ## Read holds (R129) -/

/-- The window pixel rectangle of a port in plane coordinates (R105, R127). -/
def PortRec.toPlane (r : PortRec) (t : Rect) : Rect := translate r.ox r.oy t

/-- The read holds of a port: one for each rectangle of its refresh set while it is STREAMING (R128, R129). -/
def PortRec.readHolds (r : PortRec) : List Rect :=
  match r.state with
  | .streaming set _ _ => set.rects.map r.toPlane
  | _ => []

/-- Whether a read hold of a port on a plane overlaps a rectangle of it. -/
def PortRec.holdsAgainst (r : PortRec) (plane : Nat) (t : Rect) : Bool :=
  decide (r.boundPlane = plane) && r.readHolds.any (overlaps t)

/-- Whether a read hold of either port on a plane overlaps a rectangle of it (R44). -/
def State.readHeld (s : State) (plane : Nat) (t : Rect) : Bool :=
  s.portA.holdsAgainst plane t || s.portB.holdsAgainst plane t

/-! ## The refresh set (R126, R127) -/

/-- The waveform decided at a grant (R126). -/
def PortRec.waveform (r : PortRec) : Waveform :=
  if r.force = true ∨ r.whole = true ∨ r.ghostLimit = 0 ∨ r.ghostCount = r.ghostLimit then .fullWave
  else .partialWave

/-- The refresh set built at a grant (R127). -/
def PortRec.buildSet (r : PortRec) : RefreshSet :=
  match r.waveform with
  | .fullWave => { waveform := .fullWave, rects := [⟨0, 0, r.width, r.height⟩] }
  | .partialWave => { waveform := .partialWave, rects := r.damage.map widen }

/-- The next command of a STREAMING port: WINDOW for the next rectangle, UPDATE after the last (R131). -/
def nextCommand : List Rect → StreamCommand
  | [] => .update
  | t :: rest => .window t rest

/-! ## The examination at a grant (R123, R128) -/

/-- Test 3 of R123: the write hold lies on the bound plane and overlaps a rectangle of the set. -/
def State.writeHoldBlocks (s : State) (r : PortRec) (set : RefreshSet) : Bool :=
  match s.writeHold with
  | none => false
  | some h => decide (h.plane = r.boundPlane) && (set.rects.map r.toPlane).any (overlaps h.rect)

/-- A port as it enters STREAMING (R128). -/
def PortRec.startStreaming (r : PortRec) : PortRec :=
  { r with
    state := .streaming r.buildSet (nextCommand r.buildSet.rects) false
    damage := []
    whole := false
    force := false
    holdOffTimer := .stopped }

/-- A port after the examination of its start: in a wait, or STREAMING (R123). The set is built afresh at every
examination, so after a hold wait it holds the damage of the job that has ended, as R70 and R123 say and R65 does not
(DEDUCED, log entry 27). -/
def State.examinedPort (s : State) (p : Port) : PortRec :=
  let r := s.port p
  if s.layoutLock = true then { r with state := .pending .lock }
  else if s.busyLine p = true then
    { r with state := .pending .busy, busyTimer := .running r.busyTimeout }
  else if s.writeHoldBlocks r r.buildSet = true then { r with state := .pending .hold }
  else r.startStreaming

/-! ## The arbiter (R130) -/

/-- Whether a driver query waits for the bus (R107). -/
def State.queryWaits (s : State) : Bool :=
  match s.link.work with
  | some (.query _) => true
  | _ => false

/-- Whether a FULL reset is under way: it has withdrawn the claims of the ports (R137;
DEDUCED, log entry 9). -/
def State.claimsWithdrawn (s : State) : Bool := decide (s.link.work = some .fullWaiting)

/-- Whether a port has a claim on the bus: it is in the bus wait (R119), and no FULL reset is under way
(R137). -/
def State.claims (s : State) (p : Port) : Bool := (s.port p).waits .bus && !s.claimsWithdrawn

/-- The port that comes first when both wait: the one other than the last granted, A when none was (R130). -/
def Bus.firstPort (b : Bus) : Port :=
  match b.last with
  | none => .a
  | some p => otherPort p

/-- The claimant the arbiter chooses among those that wait (R130). -/
def State.chosen (s : State) : BusOwner :=
  if s.queryWaits = true then .query
  else if s.claims s.bus.firstPort = true then .port s.bus.firstPort
  else if s.claims (otherPort s.bus.firstPort) = true then .port (otherPort s.bus.firstPort)
  else .none

/-- A grant to a port and the examination it brings: the port keeps the bus when it enters STREAMING and
gives it back at once otherwise (R123, R130). -/
def State.grantPort (s : State) (p : Port) : State :=
  let r := s.examinedPort p
  { s.setPort p r with
    bus := { owner := if r.isStreaming = true then .port p else .none, last := some p } }

/-- The arbiter grants a free bus as long as a claim waits. Each grant ends a claim, so three turns are enough
for two ports and a query. -/
def arbitrateFor : Nat → State → State
  | 0, s => s
  | turns + 1, s =>
    match s.bus.owner with
    | .port _ => s
    | .query => s
    | .none =>
      match s.chosen with
      | .none => s
      | .query => { s with bus := { s.bus with owner := .query } }
      | .port p => arbitrateFor turns (s.grantPort p)

/-- The arbiter at work whenever the bus may be free (R130). -/
def State.arbitrate (s : State) : State := arbitrateFor 3 s

/-- The owner gives the bus back, and the arbiter chooses among the claims that wait (R130). -/
def State.giveBack (s : State) : State := State.arbitrate { s with bus := { s.bus with owner := .none } }

/-- A port becomes PENDING, or goes on PENDING, with a claim on the bus; the claim alone, before the arbiter
looks. -/
def State.enterBusWait (s : State) (p : Port) : State :=
  s.setPort p { s.port p with state := .pending .bus }

/-- A port claims the bus (R119, R130). -/
def State.claimBus (s : State) (p : Port) : State := (s.enterBusWait p).arbitrate

/-- A port in a given wait claims the bus again; the claim alone. -/
def State.wakeFrom (s : State) (w : Wait) (p : Port) : State :=
  if (s.port p).waits w = true then s.enterBusWait p else s

/-- Every port in a given wait claims the bus again, in one event, and the arbiter orders the claims
(R119, R124, R130). -/
def State.wakePorts (s : State) (w : Wait) : State := ((s.wakeFrom w .a).wakeFrom w .b).arbitrate

/-! ## Damage (R113 to R117) -/

/-- Whether a port has damage present (R113). -/
def PortRec.damagePresent (r : PortRec) : Bool := r.whole || !r.damage.isEmpty

/-- A port's damage list and whole flag. -/
def PortRec.damageOf (r : PortRec) : Damage := { list := r.damage, whole := r.whole }

/-- Whether a damage addition may start the hold-off timer: AUTO mode, and a state other than FAULT and
UNCONFIGURED (R116). -/
def PortRec.timesDamage (r : PortRec) : Bool :=
  decide (r.mode = .auto) &&
    (match r.state with
      | .unconfigured => false
      | .fault _ => false
      | .idle => true
      | .pending _ => true
      | .streaming _ _ _ => true
      | .settling _ _ => true)

/-- Merges a rectangle in window coordinates into a port's damage (R115). -/
def PortRec.merge (r : PortRec) (t : Rect) : PortRec :=
  let d := mergeDamage r.width r.height r.damageOf t
  { r with damage := d.list, whole := d.whole }

/-- The hold-off timer after a damage addition: started again when the addition changed the list or set the
whole flag at a port that times its damage (R116). -/
def holdOffAfter (before after : PortRec) : Timer :=
  if before.timesDamage = true ∧ ¬ after.damageOf = before.damageOf then .running before.holdOff
  else before.holdOffTimer

/-- The addition of a rectangle in window coordinates to a port's damage, with its timer (R114, R116). -/
def PortRec.addWindowDamage (r : PortRec) (t : Rect) : PortRec :=
  { r.merge t with holdOffTimer := holdOffAfter r (r.merge t) }

/-- The addition of a rectangle of the bound plane: it is intersected with the window and translated (R114). -/
def PortRec.addPlaneDamage (r : PortRec) (t : Rect) : PortRec :=
  match intersection t ⟨r.ox, r.oy, r.width, r.height⟩ with
  | none => r
  | some i => r.addWindowDamage ⟨i.x - r.ox, i.y - r.oy, i.w, i.h⟩

/-- A port takes the damage of a job's end when it is bound to the plane (R48, R114). -/
def State.damagePort (s : State) (plane : Nat) (t : Rect) (p : Port) : State :=
  if (s.plane plane).bound p = true then s.setPort p ((s.port p).addPlaneDamage t) else s

/-- The damage of a job's end goes to each port bound to the plane, port A before port B (R48). -/
def State.recordDamage (s : State) (plane : Nat) (t : Rect) : State :=
  (s.damagePort plane t .a).damagePort plane t .b

/-- The restoration of a refresh set (R117). -/
def PortRec.restore (r : PortRec) (set : RefreshSet) : PortRec := set.rects.foldl PortRec.merge r

/-! ## The write hold (R46, R48) -/

/-- The job engine releases the write hold, if the job held one, and the ports in the hold wait claim the bus
again (R48). -/
def State.releaseWriteHold (s : State) : State :=
  match s.writeHold with
  | none => s
  | some _ => State.wakePorts { s with writeHold := none } .hold

/-! ## The panel bus (R131, section 11.6) -/

/-- The next row of a rectangle on the panel bus: its PIXELS command, read from the bound plane as it is formed
(R131). -/
def State.pixelsCommand (s : State) (r : PortRec) (t : Rect) (row : Nat) (rest : List Rect) : StreamCommand :=
  .pixels t row (s.rowBytes r.boundPlane r.depth (r.ox + t.x) t.w (r.oy + t.y + row)) rest

/-- What a STREAMING port sends when a command other than UPDATE and ABORT has completed: ABORT after a reset,
else the next row, the next WINDOW or UPDATE (R131, R137, R138). -/
def State.followingCommand (s : State) (r : PortRec) (cmd : StreamCommand) (aborting : Bool) : StreamCommand :=
  if aborting = true then .abort
  else
    match cmd with
    | .window t rest => s.pixelsCommand r t 0 rest
    | .pixels t row _ rest => if row + 1 < t.h then s.pixelsCommand r t (row + 1) rest else nextCommand rest
    | .update => .update
    | .abort => .abort

/-- The bytes of a command on PDO (Table 11-11). -/
def StreamCommand.bytes (w : Waveform) : StreamCommand → List Byte
  | .window t _ => [0x02] ++ itemRect t ++ itemU8 w.code
  | .pixels _ _ bs _ => 0x03 :: bs
  | .update => [0x04]
  | .abort => [0x05]

/-- The transaction on the panel bus, if there is one: the port whose select line is asserted, and the bytes on
PDO (R107, R131, Table 11-11). -/
def State.busTransaction (s : State) : Option (Port × List Byte) :=
  match s.bus.owner with
  | .none => none
  | .port p =>
    match (s.port p).state with
    | .streaming set cmd _ => some (p, cmd.bytes set.waveform)
    | _ => none
  | .query =>
    match s.link.work with
    | some (.query q) => some (q.port, [0x01])
    | _ => none

/-- Whether the driver select line of a port is asserted. -/
def State.selected (s : State) (p : Port) : Bool :=
  match s.busTransaction with
  | none => false
  | some t => decide (t.1 = p)

/-! ## SHOW (R120) -/

/-- What a SHOW does to its port, and the status it ends with (R120). -/
def State.showPort (s : State) (p : Port) (force : Bool) : State × Status :=
  let r := s.port p
  match r.state with
  | .unconfigured => (s, .notConfigured)
  | .idle =>
    if r.damagePresent = false ∧ r.force = false ∧ force = false then (s, .okNoChange)
    else ((s.setPort p { r with force := r.force || force }).claimBus p, .ok)
  | .pending _ => (s.setPort p { r with force := r.force || force }, .ok)
  | .streaming _ _ _ => (s.setPort p { r with force := r.force || force, again := true }, .ok)
  | .settling _ _ => (s.setPort p { r with force := r.force || force, again := true }, .ok)
  | .fault _ => (s, .portFault)

end Sys2Proof.Machine
end

