-- ==== Sys2Proof/Machine/Jobs.lean ====
section
/-! DEFINITION. The job engine's shared operations: departure, release of planes, PACK's moves, examination of
the head, and what happens at a row or extent boundary (Chapters 1 and 3). -/

namespace Sys2Proof.Machine

/-! ## Release of planes (R5, R6, R14) -/

/-- Releases a plane: its extent returns to the free extent list and its record becomes FREE (R5, R6). -/
def State.releasePlane (s : State) (h : Nat) : State :=
  State.setPlane { s with freeList := releaseExtent s.freeList (s.plane h).extent } h freePlaneRecord

/-- Releases a plane and hands over its PLANE_RELEASED (R14). -/
def State.releaseWithNotice (s : State) (h : Nat) : State := (s.releasePlane h).pushNotice (.planeReleased h)

/-- Whether a plane is RETIRING with no job left that names it and its release not yet put off. -/
def Plane.readyToRelease (p : Plane) : Bool :=
  decide (p.state = .retiring) && decide (p.refCount = 0) && !p.releaseDue

/-- The end of a RETIRING plane's last reference: release with a notice, or release due while a PACK job is
active (R14). -/
def State.endReference (s : State) (h : Nat) : State :=
  if (s.plane h).readyToRelease = true then
    if s.packActive = true then s.setPlane h { s.plane h with releaseDue := true } else s.releaseWithNotice h
  else s

/-- Lowers a plane's ref count by 1 (R8). -/
def State.lowerRef (s : State) (h : Nat) : State :=
  s.setPlane h { s.plane h with refCount := (s.plane h).refCount - 1 }

/-- Raises a plane's ref count by 1 (R8). -/
def State.raiseRef (s : State) (h : Nat) : State :=
  s.setPlane h { s.plane h with refCount := (s.plane h).refCount + 1 }

/-- The planes a list of jobs names, one entry for each job that names one. -/
def namedPlanes (jobs : List Job) : List Nat := jobs.flatMap (fun j => j.body.planes)

/-- Lowers the ref counts of the planes a list of departing jobs names (R8, R49). -/
def State.lowerRefs (s : State) (gone : List Job) : State := (namedPlanes gone).foldl State.lowerRef s

/-- The planes whose counts a departure brought to 0 are released, in ascending order of handle (R14). -/
def State.endReferences (s : State) (gone : List Job) : State :=
  (allHandles.filter (fun h => (namedPlanes gone).contains h)).foldl State.endReference s

/-! ## Departure (R49, R54, R57) -/

/-- The staging buffer after a departure: emptied when the feeding LOAD is among the departing jobs (R73). -/
def stagingAfter (s : State) (gone : List Job) : List Byte :=
  match s.feeding with
  | none => s.staging
  | some f => if gone.any (fun j => j.number == f.number) = true then [] else s.staging

/-- Jobs leave the queue as one departure: their planes' ref counts fall, RETIRING planes that reach 0 are
released unless the departure belongs to an ENGINE reset, and the records go (R14, R49, R54, R57). -/
def State.depart (s : State) (gone kept : List Job) (byReset : Bool) : State :=
  let lowered := s.lowerRefs gone
  { (if byReset = true then lowered else lowered.endReferences gone) with
    jobs := kept
    staging := stagingAfter s gone }

/-- The head of the queue departs. -/
def State.departHead (s : State) (byReset : Bool) : State := s.depart (s.jobs.take 1) s.jobs.tail byReset

/-! ## Job end (R48, R50) -/

/-- The damage of a running job: the rows of its rectangle that it has completed (R48). -/
def State.recordRows (s : State) (rows : Nat) : State :=
  match s.writeHold with
  | none => s
  | some h => if rows = 0 then s else s.recordDamage h.plane { h.rect with h := rows }

/-- Whether a job's end produces a JOB_END (R50, R51). -/
def Job.notifies (j : Job) (st : Status) : Bool :=
  j.report || decide (j.body.kind = .mark) ||
    !(decide (st = .ok) || decide (st = .okNoChange) || decide (st = .okMissing))

/-- The missing count a JOB_END carries (R50). -/
def Job.missingItem (j : Job) : Nat := if j.body.kind = .text then j.fixed.missing else 0

/-- The label a JOB_END carries (R50). -/
def JobBody.label : JobBody → Nat
  | .fill _ => 0
  | .block _ _ _ _ => 0
  | .load _ _ _ _ _ => 0
  | .text _ _ _ _ _ _ _ => 0
  | .showPort _ _ => 0
  | .pack => 0
  | .mark label => label

/-- The JOB_END of a job (R50). -/
def Job.endNotice (j : Job) (st : Status) : NoticeContent :=
  .jobEnd j.number j.body.kind st j.rowsDone j.missingItem j.body.label

/-- Hands over the JOB_END when one is due (R50). -/
def State.notifyEnd (s : State) (j : Job) (st : Status) : State :=
  if j.notifies st = true then s.pushNotice (j.endNotice st) else s

/-- The head ends by itself with a status: damage, release of the write hold, departure, JOB_END (R48, R49,
R50; DEDUCED, log entry 18). The job behind it is examined by the caller. -/
def State.endHead (s : State) (j : Job) (st : Status) : State :=
  let ended := (s.recordRows j.rowsDone).releaseWriteHold
  State.notifyEnd { ended.departHead false with dataTimer := .stopped } j st

/-! ## PACK (R17 to R21) -/

/-- The owner of an allocated extent. -/
inductive ExtentOwner where
  | plane (handle : Nat)
  | font (id : Nat)
  deriving DecidableEq, Repr

/-- An allocated extent with its owner. -/
structure OwnedExtent where
  owner : ExtentOwner
  extent : Extent
  deriving DecidableEq, Repr

/-- Inserts an extent at its place in ascending order of first block. -/
def insertByFirst (x : OwnedExtent) : List OwnedExtent → List OwnedExtent
  | [] => [x]
  | e :: rest => if x.extent.first ≤ e.extent.first then x :: e :: rest else e :: insertByFirst x rest

/-- The allocated extents: those of LIVE and RETIRING planes and of DEFINED fonts (R3, R19). -/
def State.allocated (s : State) : List OwnedExtent :=
  (allHandles.filter (fun h => decide (¬ (s.plane h).state = .free))).map
      (fun h => ⟨.plane h, (s.plane h).extent⟩)
    ++ (allFontIds.filter (fun i => decide ((s.font i).state = .defined))).map
      (fun i => ⟨.font i, (s.font i).extent⟩)

/-- The allocated extents in ascending order of first block (R19). -/
def State.allocatedInOrder (s : State) : List OwnedExtent := s.allocated.foldr insertByFirst []

/-- The first extent, in order, whose first block is not its target, with the target: the end of the extent
before it (R19). -/
def firstToMove : Nat → List OwnedExtent → Option (OwnedExtent × Nat)
  | _, [] => none
  | t, e :: rest =>
    if t < e.extent.first then some (e, t) else firstToMove (e.extent.first + e.extent.count) rest

/-- The move PACK has in progress or takes next; none when every extent has been taken (R19). -/
def State.nextMove (s : State) : Option (OwnedExtent × Nat) := firstToMove 0 s.allocatedInOrder

/-- Updates the owner's record after a move (R19). -/
def State.relocate (s : State) (o : ExtentOwner) (t : Nat) : State :=
  match o with
  | .plane h => s.setPlane h { s.plane h with extent := { (s.plane h).extent with first := t } }
  | .font i => s.setFont i { s.font i with extent := { (s.font i).extent with first := t } }

/-- The free extent list after extent (f, n) has moved to t: the free entry (t, f − t) below it now begins at
t + n, coalescing with an entry that begins at f + n (R19). -/
def freeAfterMove (l : List Extent) (f n t : Nat) : List Extent :=
  releaseExtent (l.filter (fun e => !(e.first == t))) ⟨t + n, f - t⟩

/-- Moves an extent to a target block: its whole content, its owner's record and the free extent list (R19). -/
def State.moveExtent (s : State) (x : OwnedExtent) (t : Nat) : State :=
  State.relocate
    { s.copyBytes (Config.blockBytes * x.extent.first) (Config.blockBytes * t)
        (Config.blockBytes * x.extent.count) with
      freeList := freeAfterMove s.freeList x.extent.first x.extent.count t }
    x.owner t

/-- Planes whose release is due are released, in ascending order of handle, each with its notice (R20). -/
def State.releaseDuePlanes (s : State) : State :=
  allHandles.foldl (fun t h => if (t.plane h).releaseDue = true then t.releaseWithNotice h else t) s

/-- PACK gives up the layout lock, and the ports in the lock wait claim the bus again (R20, R124). -/
def State.releaseLayoutLock (s : State) : State :=
  if s.layoutLock = true then State.wakePorts { s with layoutLock := false } .lock else s

/-- What precedes PACK's departure, whether it ends or is stopped: the releases due and the layout lock
(R20, R21). -/
def State.windUpPack (s : State) : State := s.releaseDuePlanes.releaseLayoutLock

/-- PACK ends as a job when no extent is left to take (R20). The flag says whether it ended. -/
def State.packProceed (s : State) (j : Job) : State × Bool :=
  match s.nextMove with
  | some _ => (s, false)
  | none => (s.windUpPack.endHead j .ok, true)

/-- An ACTIVE PACK takes the layout lock when no port is STREAMING and no fill is in progress, and begins
moving extents (R17). -/
def State.packTryLock (s : State) (j : Job) : State × Bool :=
  if s.layoutLock = false ∧ s.anyStreaming = false ∧ s.fillInProgress = false then
    State.packProceed { s with layoutLock := true } j
  else (s, false)

/-! ## TEXT resolution and placement (R97, R98) -/

/-- The glyph record of a font for a code. -/
def findGlyph (index : List Glyph) (font code : Nat) : Option Glyph :=
  index.find? (fun g => g.font == font && g.code == code)

/-- The glyph a code resolves to: its own, else the fallback's, else none (R97). -/
def resolveCode (index : List Glyph) (font fallback code : Nat) : Option Glyph :=
  match findGlyph index font code with
  | some g => some g
  | none => findGlyph index font fallback

/-- The resolved codes placed from a pen on a baseline, and the number of codes missing (R97, R98). -/
def placeCodes (index : List Glyph) (font fallback : Nat) (baseline : Int) :
    Int → List Nat → List PlacedGlyph × Nat
  | _, [] => ([], 0)
  | pen, code :: rest =>
    match resolveCode index font fallback code with
    | none =>
      let r := placeCodes index font fallback baseline pen rest
      (r.1, r.2 + 1)
    | some g =>
      let r := placeCodes index font fallback baseline (pen + g.advance) rest
      ({ left := pen + g.xOffset, top := baseline + g.yOffset, glyph := g } :: r.1, r.2)

/-- A glyph box clipped to a plane; none when it does not meet the plane (R98). -/
def PlacedGlyph.clip (g : PlacedGlyph) (width height : Nat) : Option Rect :=
  let x0 := max g.left 0
  let y0 := max g.top 0
  let x1 := min (g.left + g.glyph.width) width
  let y1 := min (g.top + g.glyph.height) height
  if x0 < x1 ∧ y0 < y1 then some ⟨x0.toNat, y0.toNat, (x1 - x0).toNat, (y1 - y0).toNat⟩ else none

/-- The destination rectangle of a TEXT: the bounding box of the clipped boxes; none when it is empty (R98). -/
def textRect (glyphs : List PlacedGlyph) (width height : Nat) : Option Rect :=
  boundingAll (glyphs.filterMap (fun g => g.clip width height))

/-! ## Examination of the head (R44) -/

/-- The bytes of one row of a rectangle on a plane: the row bytes of a LOAD (section 5.1.1). -/
def State.rowByteCount (s : State) (plane w : Nat) : Nat := w * (s.plane plane).depth / 8

/-- A drawing job becomes ACTIVE: it takes the write hold and fixes what it will use (R46, R47). -/
def State.activate (s : State) (j : Job) (plane : Nat) (t : Rect) (f : Fixed) : State :=
  State.setHead { s with writeHold := some { plane := plane, rect := t } } { j with state := .active, fixed := f }

/-- The head becomes HELD: it has fixed nothing (R45). -/
def State.hold (s : State) (j : Job) : State := s.setHead { j with state := .held, fixed := nothingFixed }

/-- The comparison with the read holds: the job becomes HELD or ACTIVE (R44). -/
def State.activateOrHold (s : State) (j : Job) (plane : Nat) (t : Rect) (f : Fixed) : State :=
  if s.readHeld plane t = true then s.hold j else s.activate j plane t f

/-- The pattern copy a source kind calls for (R35). -/
def State.patternCopy (s : State) (d : DrawFields) : Option Pattern :=
  match d.source with
  | .const => none
  | .plane => none
  | .pattern => some (s.patternEntry d.pattern)
  | .planeAndPattern => some (s.patternEntry d.pattern)

/-- The source values of a BLOCK as they stand, row by row (R30, R62; log entry 17). -/
def State.sourceRows (s : State) (src sx sy w h : Nat) : List (List Px) :=
  (List.range h).map (fun k => (List.range w).map (fun i => s.pixel src (sx + i) (sy + k)))

/-- An ACTIVE LOAD with less than a row staged becomes AWAITING_DATA with its data timer started; with a row
staged it begins the row (R76, R77, R78). -/
def State.loadProceed (s : State) (j : Job) (rowBytes : Nat) : State :=
  if s.staging.length < rowBytes then
    State.setHead { s with dataTimer := .running Config.dataTimeoutMs } { j with state := .awaitingData }
  else s

/-- The activation or the hold of a LOAD (R76). -/
def State.examineLoad (s : State) (j : Job) (plane : Nat) (t : Rect) : State :=
  if s.readHeld plane t = true then s.hold j
  else
    (s.activate j plane t nothingFixed).loadProceed { j with state := .active, fixed := nothingFixed }
      (s.rowByteCount plane t.w)

/-- The status of a TEXT that ends by itself with its font defined (R100). -/
def textStatus (missing : Nat) : Status := if missing = 0 then .ok else .okMissing

/-- The examination of a TEXT: the font, the resolution, and the destination rectangle (R44, R97, R98). -/
def State.examineText (s : State) (j : Job) (plane font : Nat) (penX baseline : Int) (codes : List Nat) :
    State × Bool :=
  if (s.font font).state = .undefined then (s.endHead { j with fixed := nothingFixed } .noFont, true)
  else
    let r := placeCodes s.glyphs font (s.font font).fallback baseline penX codes
    let f : Fixed := { nothingFixed with glyphs := r.1, missing := r.2 }
    match textRect r.1 (s.plane plane).width (s.plane plane).height with
    | none => (s.endHead { j with fixed := f } (textStatus r.2), true)
    | some t => (s.activateOrHold j plane t f, false)

/-- The examination of the head by its kind; the flag says whether the job has left the queue (R44). -/
def State.examineJob (s : State) (j : Job) : State × Bool :=
  match j.body with
  | .fill d =>
    (s.activateOrHold j d.dest d.rect { nothingFixed with pattern := s.patternCopy d }, false)
  | .block d src sx sy =>
    (s.activateOrHold j d.dest d.rect
      { nothingFixed with
        pattern := s.patternCopy d
        source := s.sourceRows src sx sy d.rect.w d.rect.h }, false)
  | .load dest t _ _ _ => (s.examineLoad j dest t, false)
  | .text dest font penX baseline _ _ codes => s.examineText j dest font penX baseline codes
  | .showPort p force =>
    let r := s.showPort p force
    (r.1.endHead j r.2, true)
  | .pack => State.packTryLock (s.setHead { j with state := .active }) { j with state := .active }
  | .mark _ => (s.endHead j .ok, true)

/-- Examines the head, and the jobs behind it as long as each ends at once (R44, R49). Each turn takes a job
off the queue, so as many turns as jobs are enough. -/
def examineFor : Nat → State → State
  | 0, s => s
  | turns + 1, s =>
    match s.jobs with
    | [] => s
    | j :: _ =>
      if j.running = true then s
      else
        let r := s.examineJob j
        if r.2 = true then examineFor turns r.1 else r.1

/-- The examination of whatever stands at the head, when the job engine has no job in hand (R44). -/
def State.examine (s : State) : State := examineFor s.jobs.length s

/-- An ACTIVE PACK that waits for the layout lock looks at it again (R17). -/
def State.retryPack (s : State) : State :=
  match s.jobs with
  | [] => s
  | j :: _ =>
    if s.packActive = true then
      let r := s.packTryLock j
      if r.2 = true then r.1.examine else r.1
    else s

/-- What a release of read holds brings at the job engine: a HELD head is examined again, and a PACK that waits for
the layout lock looks at it again (R17, R45, R129). -/
def State.recheckHead (s : State) : State := if s.packActive = true then s.retryPack else s.examine

/-! ## Stops (R52, R54, R57) -/

/-- Whether a running job stops at once: an AWAITING_DATA LOAD, a PACK without the layout lock, or a job that
has no boundary to reach (R52). -/
def State.stopsAtOnce (s : State) (j : Job) : Bool :=
  decide (j.state = .awaitingData) ||
    (match j.body with
      | .fill _ => false
      | .block _ _ _ _ => false
      | .load _ _ _ _ _ => false
      | .text _ _ _ _ _ _ _ => false
      | .showPort _ _ => true
      | .pack => !s.layoutLock
      | .mark _ => true)

/-- The running head is stopped by CANCEL or FLUSH: PACK's releases and its lock, the damage, the write hold,
the departure, and no JOB_END (R21, R48, R49, R52). -/
def State.stopHead (s : State) (j : Job) : State :=
  let wound := if j.body = .pack then s.windUpPack else s
  { ((wound.recordRows j.rowsDone).releaseWriteHold).departHead false with dataTimer := .stopped }

/-- The running head is stopped by an ENGINE reset: its damage is recorded and its holds and PACK's lock go,
without a JOB_END, a release of a plane or a wake of a port, since the same reset makes every PENDING port
IDLE (R57, R138; log entry 8). -/
def State.stopHeadForReset (s : State) (j : Job) : State :=
  { (s.recordRows j.rowsDone).departHead true with
    writeHold := none
    layoutLock := false
    dataTimer := .stopped }

/-- The reply to a CANCEL or FLUSH that has removed its jobs (Table 11-6). -/
def removedReply (count first last : Nat) : Reply :=
  { status := .ok, items := itemU8 count ++ itemU16 first ++ itemU16 last }

end Sys2Proof.Machine
end

