-- ==== Sys2Proof/Machine/LinkOps.lean ====
section
/-! DEFINITION. The host link's shared operations: the frame check, intake slots, the reply cache, the
transmitter's choice, and the request handler's taking of a slot and writing of a reply (Chapter 10). -/

namespace Sys2Proof.Machine

/-! ## The frame check (R152) -/

/-- One bit of the CRC: shift left, with the polynomial 0x1021 when the top bit falls out. -/
def crcShift (c : BitVec 16) : BitVec 16 := if c.msb then (c <<< 1) ^^^ 0x1021 else c <<< 1

/-- One byte of the CRC, most significant bit first. -/
def crcByte (c : BitVec 16) (b : Byte) : BitVec 16 :=
  crcShift (crcShift (crcShift (crcShift (crcShift (crcShift (crcShift (crcShift
    (c ^^^ (b.setWidth 16 <<< 8)))))))))

/-- The CRC-16 of a run of bytes, from 0xFFFF (R152). -/
def crc16 (bs : List Byte) : BitVec 16 := bs.foldl crcByte 0xFFFF

/-- The bytes CHECK is computed over: LEN, KIND, TAG and BODY (R152). -/
def checkedBytes (kind tag : Byte) (body : List Byte) : List Byte := itemU16 body.length ++ [kind, tag] ++ body

/-- A whole frame as it stands on the line (Table 11-1). -/
def frameBytes (kind tag : Byte) (body : List Byte) : List Byte :=
  [0x5A] ++ checkedBytes kind tag body ++ itemU16 (crc16 (checkedBytes kind tag body)).toNat

/-- The kind a frame being sent carries (Table 11-1). -/
def Sending.kindByte : Sending → Byte
  | .reply _ kind _ _ => kind + 0x80
  | .notice _ c _ => c.kindCode

/-- The tag a frame being sent carries: the request's tag, or the notice's number (Table 11-1). -/
def Sending.tagByte : Sending → Byte
  | .reply tag _ _ _ => tag
  | .notice seq _ _ => seq

/-- The body a frame being sent carries (sections 11.4 and 11.5). -/
def Sending.body : Sending → List Byte
  | .reply _ _ r f => itemU8 r.status.code ++ [f.byte] ++ r.items
  | .notice _ c lost => noticeFlags lost :: c.items

/-- The bytes on HTX of a frame being sent. -/
def Sending.bytes (f : Sending) : List Byte := frameBytes f.kindByte f.tagByte f.body

/-! ## Intake slots and reply cache (R154, R156) -/

/-- Whether a slot holds a request of this tag and kind. -/
def Slot.sameRequest (sl : Slot) (tag kind : Byte) : Bool := decide (sl.tag = tag) && decide (sl.kind = kind)

/-- Whether a cache entry is for this tag and kind. -/
def CacheEntry.sameRequest (e : CacheEntry) (tag kind : Byte) : Bool :=
  decide (e.tag = tag) && decide (e.kind = kind)

/-- Whether a slot is HELD. -/
def Slot.isHeld (sl : Slot) : Bool :=
  match sl.content with
  | .held _ => true
  | .answered _ _ => false

/-- Whether a slot is ANSWERED and its reply has not begun. -/
def Slot.isReady (sl : Slot) : Bool :=
  match sl.content with
  | .held _ => false
  | .answered _ begun => !begun

/-- Whether a slot's reply frame has begun. -/
def Slot.isBegun (sl : Slot) : Bool :=
  match sl.content with
  | .held _ => false
  | .answered _ begun => begun

/-- Takes a FREE slot. -/
def Link.addSlot (l : Link) (sl : Slot) : Link := { l with slots := l.slots ++ [sl] }

/-- A request arrives at the intake slots: the first case of R154 that applies. -/
def Link.arrive (l : Link) (tag kind : Byte) (body : List Byte) : Link :=
  if Config.slotCount ≤ l.slots.length then { l with flags := { l.flags with overrun := true } }
  else if tag ≠ 0 ∧ l.slots.any (fun sl => sl.sameRequest tag kind) = true then l
  else
    match (if tag = 0 then none else l.cache.find? (fun e => e.sameRequest tag kind)) with
    | some e => l.addSlot { tag := tag, kind := kind, inHand := false, content := .answered e.reply false }
    | none => l.addSlot { tag := tag, kind := kind, inHand := false, content := .held body }

/-- Enters a sent reply in the cache as the newest entry, unless its tag is 0 (R156). -/
def enterCache (cache : List CacheEntry) (tag kind : Byte) (r : Reply) : List CacheEntry :=
  if tag = 0 then cache
  else
    let kept := cache.filter (fun e => !e.sameRequest tag kind) ++ [{ tag := tag, kind := kind, reply := r }]
    kept.drop (kept.length - Config.cacheCapacity)

/-! ## The transmitter's choice (R159) -/

/-- Marks a slot's reply as begun. -/
def Slot.begin (sl : Slot) : Slot :=
  match sl.content with
  | .held _ => sl
  | .answered r _ => { sl with content := .answered r true }

/-- The reply a slot holds; a HELD slot holds none. -/
def Slot.reply? (sl : Slot) : Option Reply :=
  match sl.content with
  | .held _ => none
  | .answered r _ => some r

/-- The earliest-arrived slot whose reply is ready, with that reply (R159). -/
def readySlot (slots : List Slot) : Option (Slot × Reply) :=
  match slots.find? Slot.isReady with
  | none => none
  | some sl =>
    match sl.reply? with
    | none => none
    | some r => some (sl, r)

/-- Begins a reply frame: the link flags are filled in and cleared in the same event (R153). -/
def Link.beginReply (l : Link) (sl : Slot) (r : Reply) : Link :=
  { l with
    slots := updateFirst Slot.isReady Slot.begin l.slots
    flags := clearFlags
    sending := some (.reply sl.tag sl.kind r l.flags) }

/-- Begins the frame of the notice the notice unit offers, if it offers one (R142). -/
def State.beginNotice (s : State) : State :=
  match s.notices.offer with
  | none => s
  | some n =>
    { s with
      notices := s.notices.begun n
      link := { s.link with sending := some (s.notices.frameFor n) } }

/-- An idle transmitter begins the next frame: a ready reply, else the notice offered, else nothing (R159).
Every event that may make a frame available ends with it, since an idle transmitter begins as soon as there is a
frame to begin (DEDUCED, log entry 12). -/
def State.transmit (s : State) : State :=
  match s.link.sending with
  | some _ => s
  | none =>
    match readySlot s.link.slots with
    | some (sl, r) => { s with link := s.link.beginReply sl r }
    | none => s.beginNotice

/-! ## The request handler (R157) -/

/-- The body of the earliest-arrived HELD request, when its kind satisfies a test and the handler is free. -/
def Link.nextRequest (l : Link) (t : Byte → Bool) : Option (List Byte) :=
  match l.work, l.slots.find? Slot.isHeld with
  | none, some sl =>
    match sl.content with
    | .held body => if t sl.kind then some body else none
    | .answered _ _ => none
  | _, _ => none

/-- The handler takes the earliest-arrived HELD slot in hand. -/
def State.takeRequest (s : State) : State :=
  { s with
    link := { s.link with
      slots := updateFirst Slot.isHeld (fun sl => { sl with inHand := true }) s.link.slots } }

/-- Writes a reply into the slot in hand, which becomes ANSWERED. -/
def Slot.answer (r : Reply) (sl : Slot) : Slot :=
  if sl.inHand then { sl with inHand := false, content := .answered r false } else sl

/-- The handler finishes: the reply goes into the slot in hand, or is discarded when a link break has freed
it, and the handler is free (R157). -/
def State.answer (s : State) (r : Reply) : State :=
  { s with link := { s.link with slots := s.link.slots.map (Slot.answer r), work := none } }

/-- A reply of a status alone. -/
def statusOnly (st : Status) : Reply := { status := st, items := [] }

/-- The handler finishes with a reply of a status alone. -/
def State.refuse (s : State) (st : Status) : State := s.answer (statusOnly st)

/-- The handler finishes with OK and no items. -/
def State.confirm (s : State) : State := s.answer (statusOnly .ok)

/-- The handler stays occupied. -/
def State.occupy (s : State) (w : Work) : State := { s with link := { s.link with work := some w } }

/-- Carries out the next request when it is of a kind that satisfies the test, by `f` on its body; in any
other state nothing happens (log entry 1). -/
def State.serveWhere (s : State) (t : Byte → Bool) (f : List Byte → State → State) : State :=
  match s.link.nextRequest t with
  | none => s
  | some body => (f body s.takeRequest).transmit

/-- Carries out the next request when it is of one kind. -/
def State.serve (s : State) (kind : Byte) (f : List Byte → State → State) : State :=
  s.serveWhere (fun k => k == kind) f

/-- A request whose kind has a fixed body length is refused with BAD_LENGTH when its body is not of that
length (R158, R164). -/
def fixedLength (n : Nat) (f : List Byte → State → State) (body : List Byte) (s : State) : State :=
  if body.length = n then f body s else s.refuse .badLength

end Sys2Proof.Machine
end

