-- ==== Sys2Proof/Machine/Store.lean ====
section
/-! DEFINITION. The store manager's commands: NEW_PLANE and the end of its fill, FREE_PLANE, PLANE_INFO
and STORE_INFO (Chapter 1). -/

namespace Sys2Proof.Machine

/-- What every meaning answers with. -/
abbrev Result := Host.Outcome State Fault Refusal

/-! ## NEW_PLANE (R10, R11) -/

/-- The field checks of NEW_PLANE (R10, check 1). -/
def newPlaneFieldsOk (width height depth fill : Nat) : Bool :=
  decide (8 ≤ width) && decide (width ≤ 2048) && decide (width % 8 = 0) && decide (1 ≤ height) &&
    decide (height ≤ 2048) &&
    ((decide (depth = 1) && decide (fill ≤ 1)) || (decide (depth = 2) && decide (fill ≤ 3)))

/-- Blocks of a plane: width × depth × height / 2048 rounded up (R10). -/
def planeBlocks (width height depth : Nat) : Nat := (width * depth * height + 2047) / 2048

/-- The FREE record of lowest handle (R6). -/
def State.freeHandle (s : State) : Option Nat :=
  allHandles.find? (fun h => decide ((s.plane h).state = .free))

/-- The record of a new plane (R11). -/
def newPlaneRecord (width height depth first : Nat) : Plane :=
  { state := .live, width := width, height := height, depth := depth, stride := width * depth / 8,
    extent := ⟨first, planeBlocks width height depth⟩, refCount := 0, boundA := false, boundB := false,
    releaseDue := false }

/-- The NO_SPACE reply: the free block total and the largest free extent (R4). -/
def State.noSpace (s : State) : State :=
  s.answer { status := .noSpace, items := itemU16 (freeTotal s.freeList) ++ itemU16 (largestFree s.freeList) }

/-- NEW_PLANE's fields and checks; when all pass, the plane is created and its fill begins (R10, R11). -/
def newPlane (body : List Byte) (s : State) : State :=
  let width := fieldU16 body 0
  let height := fieldU16 body 2
  let depth := fieldU8 body 4
  let fill := fieldU8 body 5
  if newPlaneFieldsOk width height depth fill = false then s.refuse .badValue
  else if s.packActive = true then s.refuse .packing
  else
    match s.freeHandle with
    | none => s.refuse .noHandle
    | some h =>
      match allocate s.freeList (planeBlocks width height depth) with
      | none => s.noSpace
      | some (first, left) =>
        (State.setPlane { s with freeList := left } h (newPlaneRecord width height depth first)).occupy
          (.fill h (BitVec.ofNat 2 fill))

/-- NEW_PLANE. -/
def execNewPlane (s : State) : Result := .next (s.serve kindNewPlane (fixedLength 6 newPlane))

/-- The fill of a new plane completes: the pixels hold the value, the reply is written, and a waiting PACK may
take the layout lock; a HELD head is not looked at (R11, R17, R45). -/
def State.endFill (s : State) (h : Nat) (v : Px) : State :=
  let p := s.plane h
  ((s.fillPlane h v).answer
    { status := .ok, items := itemU8 h ++ itemU16 p.extent.first ++ itemU16 p.extent.count }).retryPack

/-- NEW_PLANE_FILL_END. -/
def execNewPlaneFillEnd (s : State) : Result :=
  match s.link.work with
  | some (.fill h v) => .next (s.endFill h v).transmit
  | _ => .next s

/-! ## FREE_PLANE (R12, R13) -/

/-- FREE_PLANE's checks and its two outcomes (R12, R13). -/
def freePlane (body : List Byte) (s : State) : State :=
  let h := fieldU8 body 0
  let p := s.plane h
  if p.state = .free then s.refuse .noSuchPlane
  else if p.state = .retiring then s.refuse .retiring
  else if p.boundA = true ∨ p.boundB = true then s.refuse .inUse
  else if s.packActive = true then s.refuse .packing
  else if p.refCount = 0 then (s.releasePlane h).confirm
  else
    (s.setPlane h { p with state := .retiring }).answer
      { status := .deferred, items := itemU8 p.refCount }

/-- FREE_PLANE. -/
def execFreePlane (s : State) : Result := .next (s.serve kindFreePlane (fixedLength 1 freePlane))

/-! ## PLANE_INFO and STORE_INFO (R15, R16) -/

/-- The items of a plane record (Table 11-6). -/
def planeItems (h : Nat) (p : Plane) : List Byte :=
  itemU8 h ++ itemU8 p.state.code ++ itemU16 p.width ++ itemU16 p.height ++ itemU8 p.depth ++
    itemU16 p.stride ++ itemU16 p.extent.first ++ itemU16 p.extent.count ++ itemU8 p.refCount ++
    [p.bindingsByte] ++ itemFlag p.releaseDue

/-- PLANE_INFO (R15). -/
def planeInfo (body : List Byte) (s : State) : State :=
  let h := fieldU8 body 0
  if 1 ≤ h ∧ h ≤ Config.maxHandle then s.answer { status := .ok, items := planeItems h (s.plane h) }
  else s.refuse .noSuchPlane

/-- PLANE_INFO. -/
def execPlaneInfo (s : State) : Result := .next (s.serve kindPlaneInfo (fixedLength 1 planeInfo))

/-- The number of planes in a state (R16). -/
def State.planesIn (s : State) (st : PlaneState) : Nat :=
  (allHandles.filter (fun h => decide ((s.plane h).state = st))).length

/-- The number of DEFINED fonts (R16). -/
def State.definedFonts (s : State) : Nat :=
  (allFontIds.filter (fun i => decide ((s.font i).state = .defined))).length

/-- The items of STORE_INFO (R16, Table 11-6). -/
def State.storeItems (s : State) : List Byte :=
  itemU16 (freeTotal s.freeList) ++ itemU16 (largestFree s.freeList) ++ itemU8 s.freeList.length ++
    itemU8 (s.planesIn .live) ++ itemU8 (s.planesIn .retiring) ++ itemU8 s.definedFonts ++
    itemFlag s.packActive

/-- STORE_INFO (R16). -/
def storeInfo (_body : List Byte) (s : State) : State :=
  s.answer { status := .ok, items := s.storeItems }

/-- STORE_INFO. -/
def execStoreInfo (s : State) : Result := .next (s.serve kindStoreInfo (fixedLength 0 storeInfo))

end Sys2Proof.Machine
end

