-- ==== Sys2Proof/Machine/Fonts.lean ====
section
/-! DEFINITION. The font unit's commands: NEW_FONT, GLYPH, DROP_FONT and FONT_INFO (Chapter 6). -/

namespace Sys2Proof.Machine

/-! ## NEW_FONT (R89, R90) -/

/-- The record of a new font (R90). -/
def newFontRecord (first blocks lineHeight fallback : Nat) : Font :=
  { state := .defined, extent := ⟨first, blocks⟩, usedBytes := 0, lineHeight := lineHeight,
    fallback := fallback, glyphCount := 0 }

/-- NEW_FONT's checks; when all pass, the font is defined (R89, R90). -/
def newFont (body : List Byte) (s : State) : State :=
  let id := fieldU8 body 0
  let blocks := fieldU8 body 1
  let lineHeight := fieldU8 body 2
  let fallback := fieldU16 body 3
  if ¬ (id ≤ 3 ∧ 1 ≤ blocks ∧ blocks ≤ 64 ∧ 1 ≤ lineHeight) then s.refuse .badValue
  else if s.packActive = true then s.refuse .packing
  else if (s.font id).state = .defined then s.refuse .fontExists
  else
    match allocate s.freeList blocks with
    | none => s.noSpace
    | some (first, left) =>
      (State.setFont { s with freeList := left } id (newFontRecord first blocks lineHeight fallback)).answer
        { status := .ok, items := itemU8 id ++ itemU16 first ++ itemU8 blocks }

/-- NEW_FONT. -/
def execNewFont (s : State) : Result := .next (s.serve kindNewFont (fixedLength 5 newFont))

/-! ## GLYPH (R91, R92) -/

/-- Bytes of a glyph bitmap: rows padded to whole bytes (R88). -/
def bitmapLength (width height : Nat) : Nat := (width + 7) / 8 * height

/-- A font's free bytes (R87). -/
def Font.freeBytes (f : Font) : Nat := Config.blockBytes * f.extent.count - f.usedBytes

/-- Where a glyph record stands: by font and, within a font, in ascending order of code (R88). -/
def Glyph.before (g e : Glyph) : Bool := decide (g.font < e.font) || (decide (g.font = e.font) && decide (g.code < e.code))

/-- Inserts a new record at its place, or rewrites in place the record of the same font and code (R88, R92). -/
def placeGlyph (g : Glyph) : List Glyph → List Glyph
  | [] => [g]
  | e :: rest =>
    if e.font = g.font ∧ e.code = g.code then g :: rest
    else if g.before e = true then g :: e :: rest
    else e :: placeGlyph g rest

/-- The record a GLYPH body describes, with its bitmap at an offset (Table 11-6, R92). -/
def glyphOfBody (body : List Byte) (offset : Nat) : Glyph :=
  { font := fieldU8 body 0, code := fieldU16 body 1, width := fieldU8 body 3, height := fieldU8 body 4,
    advance := fieldU8 body 5, xOffset := fieldS16 body 6, yOffset := fieldS16 body 8, offset := offset,
    length := body.length - 10 }

/-- The range checks of GLYPH (R91, check 2). -/
def glyphFieldsOk (g : Glyph) : Bool :=
  decide (g.font ≤ 3) && decide (1 ≤ g.width) && decide (g.width ≤ 64) && decide (1 ≤ g.height) &&
    decide (g.height ≤ 128) && decide (-64 ≤ g.xOffset) && decide (g.xOffset ≤ 63) &&
    decide (-128 ≤ g.yOffset) && decide (g.yOffset ≤ 127)

/-- The font record after an accepted GLYPH (R92). -/
def Font.withGlyph (f : Font) (length : Nat) (isNew : Bool) : Font :=
  { f with
    usedBytes := f.usedBytes + length
    glyphCount := if isNew = true then f.glyphCount + 1 else f.glyphCount }

/-- An accepted GLYPH: the append, the rise in used bytes and the record change together (R92). -/
def State.appendGlyph (s : State) (g : Glyph) (bitmap : List Byte) : State :=
  let f := s.font g.font
  State.setFont
    { s.writeBytes (Config.blockBytes * f.extent.first + f.usedBytes) bitmap with
      glyphs := placeGlyph g s.glyphs }
    g.font (f.withGlyph bitmap.length (findGlyph s.glyphs g.font g.code).isNone)

/-- GLYPH's checks; when all pass, the glyph is appended (R91, R92). -/
def glyphRequest (body : List Byte) (s : State) : State :=
  let g := glyphOfBody body (s.font (fieldU8 body 0)).usedBytes
  let f := s.font g.font
  if body.length < 10 then s.refuse .badLength
  else if glyphFieldsOk g = false then s.refuse .badValue
  else if ¬ body.length - 10 = bitmapLength g.width g.height then s.refuse .badLength
  else if f.state = .undefined then s.refuse .noSuchFont
  else if s.packActive = true then s.refuse .packing
  else if f.freeBytes < body.length - 10 then
    s.answer { status := .fontFull, items := itemU16 f.freeBytes }
  else if (findGlyph s.glyphs g.font g.code).isNone = true ∧ Config.glyphCapacity ≤ s.glyphs.length then
    s.answer { status := .glyphTableFull, items := itemU16 s.glyphs.length }
  else
    (s.appendGlyph g (body.drop 10)).answer
      { status := .ok,
        items := itemU8 g.font ++ itemU16 g.code ++ itemU16 (f.freeBytes - (body.length - 10)) }

/-- GLYPH. -/
def execGlyph (s : State) : Result := .next (s.serve kindGlyph glyphRequest)

/-! ## DROP_FONT (R93) -/

/-- Whether the active job is a TEXT job naming a font (R93). -/
def State.textUses (s : State) (id : Nat) : Bool :=
  match s.jobs with
  | [] => false
  | j :: _ =>
    decide (j.state = .active) &&
      (match j.body with
        | .text _ font _ _ _ _ _ => decide (font = id)
        | _ => false)

/-- A font is dropped: its glyph records leave the index, its extent is released and its record becomes
UNDEFINED (R93). -/
def State.dropFont (s : State) (id : Nat) : State :=
  State.setFont
    { s with
      glyphs := s.glyphs.filter (fun g => !(g.font == id))
      freeList := releaseExtent s.freeList (s.font id).extent }
    id undefinedFont

/-- DROP_FONT's checks and effect (R93). -/
def dropFontRequest (body : List Byte) (s : State) : State :=
  let id := fieldU8 body 0
  if ¬ id ≤ 3 then s.refuse .badValue
  else if (s.font id).state = .undefined then s.refuse .noSuchFont
  else if s.packActive = true then s.refuse .packing
  else if s.textUses id = true then s.refuse .inUse
  else
    (s.dropFont id).answer
      { status := .ok,
        items := itemU8 id ++ itemU16 (s.glyphs.filter (fun g => g.font == id)).length }

/-- DROP_FONT. -/
def execDropFont (s : State) : Result := .next (s.serve kindDropFont (fixedLength 1 dropFontRequest))

/-! ## FONT_INFO (R95) -/

/-- Whether a font's fallback code has a glyph record in it (R95). -/
def State.fallbackPresent (s : State) (id : Nat) : Bool :=
  decide ((s.font id).state = .defined) && (findGlyph s.glyphs id (s.font id).fallback).isSome

/-- The items of a font record (R95, Table 11-6). -/
def State.fontItems (s : State) (id : Nat) : List Byte :=
  let f := s.font id
  itemU8 id ++ itemU8 f.state.code ++ itemU16 f.extent.first ++ itemU8 f.extent.count ++
    itemU16 f.usedBytes ++ itemU16 f.freeBytes ++ itemU8 f.lineHeight ++ itemU16 f.fallback ++
    itemU16 f.glyphCount ++ itemFlag (s.fallbackPresent id)

/-- FONT_INFO (R95). -/
def fontInfo (body : List Byte) (s : State) : State :=
  let id := fieldU8 body 0
  if id ≤ 3 then s.answer { status := .ok, items := s.fontItems id } else s.refuse .badValue

/-- FONT_INFO. -/
def execFontInfo (s : State) : Result := .next (s.serve kindFontInfo (fixedLength 1 fontInfo))

end Sys2Proof.Machine
end

