-- ==== Sys2Proof/Machine/JobRequests.lean ====
section
/-! DEFINITION. The job queue's requests: SUBMIT, CANCEL, FLUSH and QUEUE_INFO (Chapter 3). -/

namespace Sys2Proof.Machine

/-! ## SUBMIT: length and field checks (R41, checks 1 and 2; Table 11-7) -/

/-- Whether a SUBMIT body's length fits its kind (R41, check 1). -/
def submitLengthOk (body : List Byte) : Bool :=
  let n := body.length
  match fieldU8 body 0 with
  | 1 => decide (n = 15)
  | 2 => decide (n = 20)
  | 3 => decide (n = 12)
  | 4 => decide (12 ≤ n) && decide (n ≤ 266) && decide (n % 2 = 0)
  | 5 => decide (n = 4)
  | 6 => decide (n = 2)
  | 7 => decide (n = 6)
  | _ => decide (2 ≤ n)

/-- Whether a rectangle's fields are in the ranges of Table 3-3. -/
def rectFieldsOk (r : Rect) : Bool :=
  decide (r.x ≤ 2047) && decide (r.y ≤ 2047) && decide (1 ≤ r.w) && decide (r.w ≤ 2048) && decide (1 ≤ r.h) &&
    decide (r.h ≤ 2048)

/-- The source kind a code stands for in a FILL (R28). -/
def fillSource (n : Nat) : Option SourceKind :=
  if n = 0 then some .const else if n = 1 then some .pattern else none

/-- The source kind a code stands for in a BLOCK (R28). -/
def blockSource (n : Nat) : Option SourceKind :=
  if n = 2 then some .plane else if n = 3 then some .planeAndPattern else none

/-- The fields FILL and BLOCK share, when each is in its range (Tables 3-3 and 11-7). -/
def drawFields (body : List Byte) (source : Nat → Option SourceKind) : Option DrawFields :=
  let rect := fieldRect body 3
  match source (fieldU8 body 11) with
  | none => none
  | some sk =>
    if rectFieldsOk rect = true ∧ fieldU8 body 12 ≤ 3 ∧ fieldU8 body 13 ≤ 15 ∧ fieldU8 body 14 ≤ 15 then
      some
        { dest := fieldU8 body 2, rect := rect, source := sk, constant := BitVec.ofNat 2 (fieldU8 body 12),
          pattern := fieldU8 body 13, fn := BitVec.ofNat 4 (fieldU8 body 14) }
    else none

/-- The kind-specific fields of a FILL. -/
def fillFields (body : List Byte) : Option JobBody := (drawFields body fillSource).map .fill

/-- The kind-specific fields of a BLOCK. -/
def blockFields (body : List Byte) : Option JobBody :=
  match drawFields body blockSource with
  | none => none
  | some d =>
    if fieldU16 body 16 ≤ 2047 ∧ fieldU16 body 18 ≤ 2047 then
      some (.block d (fieldU8 body 15) (fieldU16 body 16) (fieldU16 body 18))
    else none

/-- The kind-specific fields of a LOAD; its two sizes are computed at acceptance (R71). -/
def loadFields (body : List Byte) : Option JobBody :=
  if rectFieldsOk (fieldRect body 3) = true ∧ fieldU8 body 11 ≤ 15 then
    some (.load (fieldU8 body 2) (fieldRect body 3) (BitVec.ofNat 4 (fieldU8 body 11)) 0 0)
  else none

/-- The kind-specific fields of a TEXT (R96). -/
def textFields (body : List Byte) : Option JobBody :=
  if fieldU8 body 3 ≤ 3 ∧ fieldU8 body 8 ≤ 3 ∧ fieldU8 body 9 ≤ 15 then
    some
      (.text (fieldU8 body 2) (fieldU8 body 3) (fieldS16 body 4) (fieldS16 body 6)
        (BitVec.ofNat 2 (fieldU8 body 8)) (BitVec.ofNat 4 (fieldU8 body 9)) (fieldsU16 (body.drop 10)))
  else none

/-- The kind-specific fields of a SHOW. -/
def showFields (body : List Byte) : Option JobBody :=
  match portOfCode (fieldU8 body 2), flagOfCode (fieldU8 body 3) with
  | some p, some f => some (.showPort p f)
  | _, _ => none

/-- The kind and its fields, when every one is in its range (R41, check 2). -/
def jobFields (body : List Byte) : Option JobBody :=
  match fieldU8 body 0 with
  | 1 => fillFields body
  | 2 => blockFields body
  | 3 => loadFields body
  | 4 => textFields body
  | 5 => showFields body
  | 6 => some .pack
  | 7 => some (.mark (fieldU32 body 2))
  | _ => none

/-! ## SUBMIT: planes and geometry (R41, checks 4 to 7; R42) -/

/-- Whether a rectangle lies inside a plane. -/
def Plane.contains (p : Plane) (r : Rect) : Bool := insideArea r p.width p.height

/-- Checks 5, 6 and 7 of a SUBMIT (R42): the status of the first that fails, if one does. -/
def State.geometryStatus (s : State) (b : JobBody) : Option Status :=
  match b with
  | .fill d => if (s.plane d.dest).contains d.rect = true then none else some .outOfBounds
  | .block d src sx sy =>
    if ¬ (s.plane src).depth = (s.plane d.dest).depth then some .depthMismatch
    else if (s.plane d.dest).contains d.rect = true ∧
        (s.plane src).contains ⟨sx, sy, d.rect.w, d.rect.h⟩ = true then none
    else some .outOfBounds
  | .load dest r _ _ _ =>
    if (s.plane dest).contains r = false then some .outOfBounds
    else if r.x % pixelsPerByte (s.plane dest).depth = 0 ∧ r.w % pixelsPerByte (s.plane dest).depth = 0 then none
    else some .badValue
  | .text _ _ _ _ _ _ _ => none
  | .showPort _ _ => none
  | .pack => none
  | .mark _ => none

/-- Checks 4 to 7 of a SUBMIT (R42): the status of the first that fails, if one does. -/
def State.planeStatus (s : State) (b : JobBody) : Option Status :=
  if b.planes.any (fun h => decide ((s.plane h).state = .free)) = true then some .noSuchPlane
  else if b.planes.any (fun h => decide ((s.plane h).state = .retiring)) = true then some .retiring
  else s.geometryStatus b

/-! ## SUBMIT: acceptance (R38, R43) -/

/-- The value after a job number (R38). -/
def numberAfter (n : Nat) : Nat := if n = 65535 then 1 else n + 1

/-- The counter moved past the numbers of jobs still in the queue (R38). As many turns as jobs are enough. -/
def skipHeld (jobs : List Job) : Nat → Nat → Nat
  | 0, n => n
  | turns + 1, n => if jobs.any (fun j => j.number == n) = true then skipHeld jobs turns (numberAfter n) else n

/-- The number the next accepted job takes (R38). -/
def State.nextNumber (s : State) : Nat := skipHeld s.jobs s.jobs.length s.jobCounter

/-- A LOAD's total bytes, computed at acceptance (R71). -/
def State.withSizes (s : State) (b : JobBody) : JobBody :=
  match b with
  | .load dest r fn _ _ => .load dest r fn (s.rowByteCount dest r.w * r.h) 0
  | .fill d => .fill d
  | .block d src sx sy => .block d src sx sy
  | .text dest font penX baseline ink fn codes => .text dest font penX baseline ink fn codes
  | .showPort p f => .showPort p f
  | .pack => .pack
  | .mark l => .mark l

/-- The record of an accepted job (R43). -/
def State.newJob (s : State) (b : JobBody) (report : Bool) : Job :=
  { number := s.nextNumber, body := s.withSizes b, report := report, state := .queued, rowsDone := 0,
    fixed := nothingFixed }

/-- Acceptance: the record, its place, the counter and the ref counts, all together (R43). -/
def State.accept (s : State) (b : JobBody) (report : Bool) : State :=
  { b.planes.foldl State.raiseRef s with
    jobs := s.jobs ++ [s.newJob b report]
    jobCounter := numberAfter s.nextNumber }

/-- SUBMIT's checks; an accepted job that finds the queue empty is examined at once (R41, R43). -/
def submit (body : List Byte) (s : State) : State :=
  if submitLengthOk body = false then s.refuse .badLength
  else
    match jobFields body, flagOfCode (fieldU8 body 1) with
    | some b, some report =>
      if Config.jobCapacity ≤ s.jobs.length then
        s.answer { status := .queueFull, items := itemU8 s.jobs.length }
      else
        match s.planeStatus b with
        | some st => s.refuse st
        | none =>
          ((if s.jobs.isEmpty = true then (s.accept b report).examine else s.accept b report)).answer
            { status := .ok, items := itemU16 s.nextNumber }
    | _, _ => s.refuse .badValue

/-- SUBMIT. -/
def execSubmit (s : State) : Result := .next (s.serve kindSubmit submit)

/-! ## CANCEL (R52) -/

/-- A job that has not become ACTIVE is removed; when it was the head, the job behind it is examined (R49,
R52). -/
def State.removeWaiting (s : State) (j : Job) : State :=
  let removed := s.depart [j] (s.jobs.filter (fun i => !(i.number == j.number))) false
  if (s.jobs.take 1).any (fun i => i.number == j.number) = true then removed.examine else removed

/-- CANCEL (R52). -/
def cancel (body : List Byte) (s : State) : State :=
  let n := fieldU16 body 0
  match s.jobs.find? (fun j => j.number == n) with
  | none => s.refuse .noSuchJob
  | some j =>
    if j.running = false then (s.removeWaiting j).answer (removedReply 1 n n)
    else if s.stopsAtOnce j = true then (s.stopHead j).examine.answer (removedReply 1 n n)
    else s.occupy (.cancel n)

/-- CANCEL. -/
def execCancel (s : State) : Result := .next (s.serve kindCancel (fixedLength 2 cancel))

/-! ## FLUSH (R54) -/

/-- The jobs that the first part of a FLUSH or of an ENGINE reset leaves: the head, when it is running (R54,
R57). -/
def State.keptHead (s : State) : List Job := (s.jobs.take 1).filter Job.running

/-- The jobs that the first part of a FLUSH or of an ENGINE reset removes (R54, R57). -/
def State.flushedJobs (s : State) : List Job := s.jobs.drop s.keptHead.length

/-- The first part of a FLUSH or of an ENGINE reset: one departure (R54, R57). -/
def State.flushWaiting (s : State) (byReset : Bool) : State := s.depart s.flushedJobs s.keptHead byReset

/-- The number of the oldest job, 0 when there is none (R54). -/
def State.firstNumber (s : State) : Nat := (s.jobs.head?.map (·.number)).getD 0

/-- The number of the newest job, 0 when there is none (R54). -/
def State.lastNumber (s : State) : Nat := (s.jobs.getLast?.map (·.number)).getD 0

/-- FLUSH (R54). -/
def flush (_body : List Byte) (s : State) : State :=
  let t := s.flushWaiting false
  match t.jobs with
  | [] => t.answer (removedReply s.jobs.length s.firstNumber s.lastNumber)
  | j :: _ =>
    if t.stopsAtOnce j = true then
      (t.stopHead j).answer (removedReply s.jobs.length s.firstNumber s.lastNumber)
    else t.occupy (.flush s.jobs.length s.firstNumber s.lastNumber)

/-- FLUSH. -/
def execFlush (s : State) : Result := .next (s.serve kindFlush (fixedLength 0 flush))

/-! ## QUEUE_INFO (R55, R84) -/

/-- The items of FILL and BLOCK fields (Table 11-7). -/
def DrawFields.items (d : DrawFields) : List Byte :=
  itemU8 d.dest ++ itemRect d.rect ++ itemU8 d.source.code ++ itemU8 d.constant.toNat ++ itemU8 d.pattern ++
    itemU8 d.fn.toNat

/-- The kind fields of a job, from the destination plane onward, and a LOAD's two sizes (Table 11-8). -/
def JobBody.items : JobBody → List Byte
  | .fill d => d.items
  | .block d src sx sy => d.items ++ itemU8 src ++ itemU16 sx ++ itemU16 sy
  | .load dest r fn total received =>
    itemU8 dest ++ itemRect r ++ itemU8 fn.toNat ++ itemU32 total ++ itemU32 received
  | .text dest font penX baseline ink fn codes =>
    itemU8 dest ++ itemU8 font ++ itemS16 penX ++ itemS16 baseline ++ itemU8 ink.toNat ++ itemU8 fn.toNat ++
      codes.flatMap itemU16
  | .showPort p force => itemU8 (portCode p) ++ itemFlag force
  | .pack => []
  | .mark label => itemU32 label

/-- A job record as QUEUE_INFO reports it (Table 11-8). -/
def Job.items (j : Job) : List Byte :=
  itemU16 j.number ++ itemU8 j.body.kind.code ++ itemFlag j.report ++ itemU8 j.state.code ++
    itemU16 j.rowsDone ++ j.body.items

/-- What QUEUE_INFO reports of the head: number, kind, state and, apart, rows done; all 0 when the queue is
empty (R55, R165). -/
def headItems (jobs : List Job) : List Byte :=
  match jobs with
  | [] => itemU16 0 ++ itemU8 0 ++ itemU8 0 ++ itemU16 0
  | j :: _ => itemU16 j.number ++ itemU8 j.body.kind.code ++ itemU8 j.state.code ++ itemU16 j.rowsDone

/-- The number of the feeding LOAD, 0 when there is none (R73). -/
def State.feedingNumber (s : State) : Nat := (s.feeding.map (·.number)).getD 0

/-- The queue summary (R55, Table 11-8). -/
def State.queueSummary (s : State) : List Byte :=
  itemU8 s.jobs.length ++ headItems s.jobs ++ itemU16 s.jobCounter ++ itemU16 s.feedingNumber ++
    itemU16 s.staging.length

/-- QUEUE_INFO (R55). -/
def queueInfo (body : List Byte) (s : State) : State :=
  if ¬ (body.length = 0 ∨ body.length = 2) then s.refuse .badLength
  else if body.length = 0 ∨ fieldU16 body 0 = 0 then s.answer { status := .ok, items := s.queueSummary }
  else
    match s.jobs.find? (fun j => j.number == fieldU16 body 0) with
    | none => s.refuse .noSuchJob
    | some j => s.answer { status := .ok, items := s.queueSummary ++ j.items }

/-- QUEUE_INFO. -/
def execQueueInfo (s : State) : Result := .next (s.serve kindQueueInfo queueInfo)

end Sys2Proof.Machine
end

