-- ==== Sys2Proof/Machine/Resets.lean ====
section
/-! DEFINITION. The resets and the link break: POWER_ON_RESET, RESET, ENGINE_RESET, FULL_RESET and LINK_BREAK,
and the stop of a running job at a boundary, which may complete an ENGINE reset (R22, R23, R57, R137, R138,
R149, R150, R161 to R163). -/

namespace Sys2Proof.Machine

/-! ## Power-on (R163) -/

/-- The part after NRESET is released: the power-on values, the rate from the straps, the transmitter sending
STARTED (POWER). The levels of the busy lines are the drivers', and the content of the store is unspecified
anew (R1). -/
def State.poweredOn (s : State) (rate1 rate0 : Bool) : State :=
  { State.reset with
    link := { State.reset.link with rate := rateOfStraps rate1 rate0 }
    busyLineA := s.busyLineA
    busyLineB := s.busyLineB
    powerOns := s.powerOns + 1
    pending := s.pending }

/-- POWER_ON_RESET. -/
def execPowerOnReset (rate1 rate0 : Bool) (s : State) : Result := .next (s.poweredOn rate1 rate0)

/-! ## RESET (R161) -/

/-- Writes a reply into the slot in hand and keeps the slot in hand (R161). -/
def Slot.answerKept (r : Reply) (sl : Slot) : Slot :=
  if sl.inHand then { sl with content := .answered r false } else sl

/-- A valid RESET is answered OK and occupies the handler (R161). -/
def State.answerReset (s : State) (k : ResetKind) : State :=
  { s with
    link := { s.link with
      slots := s.link.slots.map (Slot.answerKept (statusOnly .ok))
      work := some (.resetReply k) } }

/-- RESET: ENGINE or FULL, else BAD_VALUE (R161, Table 11-4). -/
def resetRequest (body : List Byte) (s : State) : State :=
  match fieldU8 body 0 with
  | 1 => s.answerReset .engine
  | 2 => s.answerReset .full
  | _ => s.refuse .badValue

/-- RESET. -/
def execReset (s : State) : Result := .next (s.serve kindReset (fixedLength 1 resetRequest))

/-! ## ENGINE reset (R23, R57, R118, R138, R150) -/

/-- The hold-off timer started, in AUTO mode; stopped in MANUAL mode (R116, R118). -/
def PortRec.freshHoldOff (r : PortRec) : Timer :=
  match r.mode with
  | .manual => .stopped
  | .auto => .running r.holdOff

/-- What an ENGINE reset does to the damage, the flags and the ghost count of a configured port (R118, R138). -/
def PortRec.resetDamage (r : PortRec) : PortRec :=
  { r with damage := [], whole := true, force := false, again := false, ghostCount := r.ghostLimit }

/-- An ENGINE reset at a port, by its state (R118, R138; DEDUCED, log entry 8). -/
def PortRec.engineReset (r : PortRec) : PortRec :=
  match r.state with
  | .unconfigured => r
  | .idle => { r.resetDamage with holdOffTimer := r.freshHoldOff }
  | .pending _ =>
    { r.resetDamage with state := .idle, busyTimer := .stopped, holdOffTimer := r.freshHoldOff }
  | .streaming set .update _ => { r.resetDamage with state := .streaming set .update true }
  | .streaming set cmd _ =>
    { r.resetDamage with state := .streaming set cmd true, holdOffTimer := r.freshHoldOff }
  | .settling set _ => { r.resetDamage with state := .settling set true }
  | .fault c => { r.resetDamage with state := .fault c, holdOffTimer := .stopped }

/-- An ENGINE reset at a plane record: a LIVE record keeps all but its ref count, a RETIRING plane is released
without a notice (R6, R23). -/
def State.resetPlane (s : State) (h : Nat) : State :=
  match (s.plane h).state with
  | .free => s
  | .live => s.setPlane h { s.plane h with refCount := 0 }
  | .retiring => s.releasePlane h

/-- The ENGINE reset takes effect: planes, layout lock, staging buffer, ports, reply cache and handler, and last
the STARTED notice (R23, R57, R85, R138, R150, R161). -/
def State.finishEngineReset (s : State) : State :=
  let t := allHandles.foldl State.resetPlane s
  State.pushNotice
    { t with
      layoutLock := false
      writeHold := none
      staging := []
      dataTimer := .stopped
      portA := t.portA.engineReset
      portB := t.portB.engineReset
      link := { t.link with cache := [], work := none } }
    (.started .resetEngine)

/-- An ENGINE reset begins: every job that is not running is removed; a running one that stops at once is
stopped and the reset takes effect, any other finishes its row or extent first (R57). -/
def State.beginEngineReset (s : State) : State :=
  let t := s.flushWaiting true
  match t.jobs with
  | [] => t.finishEngineReset
  | j :: _ => if t.stopsAtOnce j = true then (t.stopHeadForReset j).finishEngineReset else t.occupy .engineStopping

/-- ENGINE_RESET: an answered RESET naming ENGINE, its reply sent, takes effect. -/
def execEngineReset (s : State) : Result :=
  match s.link.work with
  | some (.resetDue .engine) => .next s.beginEngineReset.transmit
  | _ => .next s

/-! ## FULL reset (R22, R56, R137, R149, R161) -/

/-- A FULL reset makes a STREAMING port end with ABORT after its command in progress (R137). -/
def PortRec.markAborting (r : PortRec) : PortRec :=
  match r.state with
  | .streaming set cmd _ => { r with state := .streaming set cmd true }
  | _ => r

/-- The FULL reset takes effect: every block takes its power-on values except the rate and the content of the
store, and a STARTED (RESET_FULL) is queued (R1, R22, R149, R161). -/
def State.finishFullReset (s : State) : State :=
  { State.reset with
    mem := s.mem
    link := { State.reset.link with rate := s.link.rate, sending := none }
    notices := startedUnit .resetFull
    busyLineA := s.busyLineA
    busyLineB := s.busyLineB
    powerOns := s.powerOns
    pending := s.pending }

/-- A FULL reset under way takes effect once no port is STREAMING and no frame is on HTX (R137, R149, R161;
DEDUCED, log entry 7). -/
def State.tryFullReset (s : State) : State :=
  if s.link.work = some .fullWaiting ∧ s.anyStreaming = false ∧ s.link.sending = none then s.finishFullReset
  else s

/-- A FULL reset begins (R137, R161). -/
def State.beginFullReset (s : State) : State :=
  State.tryFullReset
    (State.occupy { s with portA := s.portA.markAborting, portB := s.portB.markAborting } .fullWaiting)

/-- FULL_RESET: an answered RESET naming FULL, its reply sent, takes effect. -/
def execFullReset (s : State) : Result :=
  match s.link.work with
  | some (.resetDue .full) => .next s.beginFullReset.transmit
  | _ => .next s

/-! ## Link break (R148, R162) -/

/-- What a break leaves of the work in hand: a RESET whose reply has not been sent does not take effect; every
other work is completed by its owner, its reply discarded when written (R161, R162). -/
def workAfterBreak (w : Option Work) : Option Work :=
  match w with
  | some (.resetReply _) => none
  | w => w

/-- The host link after a break (R162, Table 10-2). -/
def Link.broken (l : Link) : Link :=
  { rate := l.rate, receiver := .hunt, flags := clearFlags, slots := [], cache := [], sending := none,
    work := workAfterBreak l.work }

/-- LINK_BREAK (R148, R162). A FULL reset that waited for the frame now abandoned goes on. -/
def execLinkBreak (s : State) : Result :=
  .next (State.tryFullReset { s with link := s.link.broken, notices := s.notices.broken }).transmit

/-! ## The end of a row or extent with a stop pending (R52, R54, R57, R66) -/

/-- Whether a CANCEL, FLUSH or ENGINE reset waits for the running job's boundary. -/
def State.stopPending (s : State) : Bool :=
  match s.link.work with
  | some (.cancel _) => true
  | some (.flush _ _ _) => true
  | some .engineStopping => true
  | _ => false

/-- The running head, at a boundary, is stopped by what waits for it (R52, R54, R57). -/
def State.stopAtBoundary (s : State) (j : Job) : State :=
  match s.link.work with
  | some (.cancel n) => (s.stopHead j).examine.answer (removedReply 1 n n)
  | some (.flush count first last) => (s.stopHead j).answer (removedReply count first last)
  | some .engineStopping => (s.stopHeadForReset j).finishEngineReset
  | _ => s

/-- The end of a row: the job stops if a stop is pending, ends if it was the last, and goes on otherwise
(R63, R66). -/
def State.afterRow (s : State) (j : Job) (height : Nat) (st : Status) (goOn : State) : State :=
  if s.stopPending = true then s.stopAtBoundary j
  else if j.rowsDone = height then (s.endHead j st).examine
  else goOn

end Sys2Proof.Machine
end

