-- ==== Sys2Proof/Machine/Link.lean ====
section
/-! DEFINITION. The host link's commands: BYTE_RECEIVED, FRAME_RECEIVED, FRAME_GAP_TIMEOUT, UNKNOWN_KIND, PING,
REPLY_FRAME_SENT and NOTICE_FRAME_SENT (Chapter 10). -/

namespace Sys2Proof.Machine

/-! ## The frame receiver (R151, R152, R153) -/

/-- The receiver moves to a state. -/
def State.setReceiver (s : State) (r : Receiver) : State := { s with link := { s.link with receiver := r } }

/-- The frame or the byte is discarded with FRAMING set, and the receiver is in HUNT (R152). -/
def State.discardFrame (s : State) : State := (s.setReceiver .hunt).setFraming

/-- Whether a kind can be a request's: 0x01 to 0x3F (R153). -/
def isRequestKind (kind : Byte) : Bool := decide (0x01 ≤ kind.toNat) && decide (kind.toNat ≤ 0x3F)

/-- Whether the two CHECK bytes received agree with the frame (R152, R153). -/
def checkMatches (kind tag : Byte) (body : List Byte) (hi lo : Byte) : Bool :=
  decide (crc16 (checkedBytes kind tag body) = hi ++ lo)

/-- A request arrives at the intake slots (R154). -/
def State.arrive (s : State) (tag kind : Byte) (body : List Byte) : State :=
  { s with link := s.link.arrive tag kind body }

/-- The frame is complete and judged, and the receiver returns to HUNT (R152, R153). -/
def State.judge (s : State) (kind tag : Byte) (body : List Byte) (hi lo : Byte) : State :=
  if checkMatches kind tag body hi lo = false then (s.setReceiver .hunt).setCheckFail
  else if isRequestKind kind = false then s.discardFrame
  else (s.setReceiver .hunt).arrive tag kind body

/-- The receiver after the second byte of LEN (R152). -/
def receiverAfterLen (len : Nat) : Receiver := .header len none

/-- The receiver after TAG: BODY, or CHECK when LEN is 0 (R152). -/
def receiverAfterTag (len : Nat) (kind tag : Byte) : Receiver :=
  if len = 0 then .check kind tag [] none else .body len kind tag []

/-- The receiver after a byte of the body: CHECK after the LEN-th, else BODY (R152). -/
def receiverAfterBody (len : Nat) (kind tag : Byte) (got : List Byte) : Receiver :=
  if len ≤ got.length then .check kind tag got none else .body len kind tag got

/-- A good character at the receiver, by the table of R152. -/
def State.takeByte (s : State) (b : Byte) : State :=
  match s.link.receiver with
  | .hunt => if b = 0x5A then s.setReceiver (.length none) else s.discardFrame
  | .length none => s.setReceiver (.length (some b))
  | .length (some hi) =>
    if Config.maxBody < hi.toNat * 256 + b.toNat then s.discardFrame
    else s.setReceiver (receiverAfterLen (hi.toNat * 256 + b.toNat))
  | .header len none => s.setReceiver (.header len (some b))
  | .header len (some kind) => s.setReceiver (receiverAfterTag len kind b)
  | .body len kind tag got => s.setReceiver (receiverAfterBody len kind tag (got ++ [b]))
  | .check kind tag body none => s.setReceiver (.check kind tag body (some b))
  | .check kind tag body (some hi) => s.judge kind tag body hi b

/-- BYTE_RECEIVED: a character whose stop bit is at the break level is discarded, with FRAMING set and any
partial frame discarded; a good one is taken by the receiver (R151, R152). -/
def execByteReceived (value : Byte) (stopBit : Bool) (s : State) : Result :=
  if stopBit = true then .next (s.takeByte value).transmit else .next s.discardFrame

/-- FRAME_RECEIVED: the second CHECK byte of a frame arrives (R153, R154). -/
def execFrameReceived (check : Byte) (s : State) : Result :=
  match s.link.receiver with
  | .check kind tag body (some hi) => .next (s.judge kind tag body hi check).transmit
  | _ => .next s

/-- FRAME_GAP_TIMEOUT: 20 ms pass inside a frame (R152). HUNT has no time limit. -/
def execFrameGapTimeout (s : State) : Result :=
  match s.link.receiver with
  | .hunt => .next s
  | _ => .next s.discardFrame

/-! ## UNKNOWN_KIND and PING (R158, R160) -/

/-- UNKNOWN_KIND: the next request is of an unassigned kind (R158). -/
def execUnknownKind (s : State) : Result :=
  .next (s.serveWhere (fun k => !assignedKinds.contains k) (fun _ t => t.refuse .unknownKind))

/-- PING: a body of up to 1022 bytes is echoed (R160). -/
def ping (body : List Byte) (s : State) : State :=
  if body.length ≤ 1022 then s.answer { status := .ok, items := body } else s.refuse .badLength

/-- PING. -/
def execPing (s : State) : Result := .next (s.serve kindPing ping)

/-! ## The end of a frame on HTX (R156, R159, R161) -/

/-- Whether the reply just sent is a RESET's, whose slot the handler still has in hand (R161). -/
def Link.sentInHand (l : Link) : Bool := l.slots.any (fun sl => sl.isBegun && sl.inHand)

/-- The work in hand after a reply has been sent: a RESET whose reply it was is due (R161). -/
def Link.workAfterReply (l : Link) : Option Work :=
  match l.work with
  | some (.resetReply k) => if l.sentInHand = true then some (.resetDue k) else l.work
  | _ => l.work

/-- The transmitter finishes a reply frame: its slot becomes FREE and the reply enters the cache (R154, R156,
R159). -/
def Link.replySent (l : Link) (tag kind : Byte) (r : Reply) : Link :=
  { l with
    slots := l.slots.eraseP Slot.isBegun
    cache := enterCache l.cache tag kind r
    work := l.workAfterReply
    sending := none }

/-- Whether a reset is due and is taken before the transmitter chooses (R161; log entry 5). -/
def Link.resetGoesFirst (l : Link) (order : ReplyEndOrder) : Bool :=
  decide (order = .resetFirst) &&
    (match l.work with
      | some (.resetDue _) => true
      | _ => false)

/-- The transmitter's choice as a reply ends, unless a reset that is due goes first (R159, R161). -/
def State.chooseAfterReply (s : State) (order : ReplyEndOrder) : State :=
  if s.link.resetGoesFirst order = true then s else s.transmit

/-- REPLY_FRAME_SENT. -/
def execReplyFrameSent (order : ReplyEndOrder) (s : State) : Result :=
  match s.link.sending with
  | some (.reply tag kind r _) =>
    .next ((State.tryFullReset { s with link := s.link.replySent tag kind r }).chooseAfterReply order)
  | _ => .next s

/-- NOTICE_FRAME_SENT (R159). -/
def execNoticeFrameSent (s : State) : Result :=
  match s.link.sending with
  | some (.notice _ _ _) =>
    .next (State.tryFullReset { s with link := { s.link with sending := none } }).transmit
  | _ => .next s

end Sys2Proof.Machine
end

