-- ==== Sys2Proof/Machine/Rows.lean ====
section
/-! DEFINITION. The rows of FILL, BLOCK and TEXT jobs and the extent moves of PACK: FILL_ROW_END,
BLOCK_ROW_END, TEXT_ROW_END and EXTENT_MOVE (Chapters 1, 4 and 6). -/

namespace Sys2Proof.Machine

/-- A job with one more row, or extent, done. -/
def Job.nextRow (j : Job) : Job := { j with rowsDone := j.rowsDone + 1 }

/-- The pattern pixel of a job's copy, reduced to a depth (R24, R32). -/
def Job.patternAt (j : Job) (depth x y : Nat) : Px :=
  match j.fixed.pattern with
  | none => 0
  | some p => reduceTo depth (patternPixel p x y)

/-! ## FILL (R63) -/

/-- The source value of a FILL at a pixel (R27). -/
def fillSourceAt (j : Job) (d : DrawFields) (depth x y : Nat) : Px :=
  match d.source with
  | .const => reduceTo depth d.constant
  | .plane => reduceTo depth d.constant
  | .pattern => j.patternAt depth x y
  | .planeAndPattern => j.patternAt depth x y

/-- Writes the next row of a FILL (R63). -/
def State.fillRow (s : State) (j : Job) (d : DrawFields) : State :=
  let depth := (s.plane d.dest).depth
  let y := d.rect.y + j.rowsDone
  s.drawRow d.dest d.rect.x d.rect.w y (fun x old => combine depth d.fn (fillSourceAt j d depth x y) old)

/-- The end of a FILL row (R63, R65, R66). -/
def State.fillRowEnd (s : State) (j : Job) (d : DrawFields) : State :=
  let t := (s.fillRow j d).setHead j.nextRow
  t.afterRow j.nextRow d.rect.h .ok t

/-- FILL_ROW_END: the ACTIVE FILL at the head completes a row. -/
def execFillRowEnd (s : State) : Result :=
  match s.jobs with
  | [] => .next s
  | j :: _ =>
    match j.state, j.body with
    | .active, .fill d => .next (s.fillRowEnd j d).transmit
    | _, _ => .next s

/-! ## BLOCK (R64) -/

/-- The source value of a BLOCK at column i of its row k (R27, R30). -/
def blockSourceAt (j : Job) (d : DrawFields) (depth i k : Nat) : Px :=
  let v := (j.fixed.source.getD k []).getD i 0
  match d.source with
  | .const => v
  | .plane => v
  | .pattern => v &&& j.patternAt depth (d.rect.x + i) (d.rect.y + k)
  | .planeAndPattern => v &&& j.patternAt depth (d.rect.x + i) (d.rect.y + k)

/-- Writes the next row of a BLOCK from its source values at activation (R64). -/
def State.blockRow (s : State) (j : Job) (d : DrawFields) : State :=
  let depth := (s.plane d.dest).depth
  s.drawRow d.dest d.rect.x d.rect.w (d.rect.y + j.rowsDone) (fun x old =>
    combine depth d.fn (blockSourceAt j d depth (x - d.rect.x) j.rowsDone) old)

/-- The end of a BLOCK row (R64, R65, R66). -/
def State.blockRowEnd (s : State) (j : Job) (d : DrawFields) : State :=
  let t := (s.blockRow j d).setHead j.nextRow
  t.afterRow j.nextRow d.rect.h .ok t

/-- BLOCK_ROW_END: the ACTIVE BLOCK at the head completes a row. -/
def execBlockRowEnd (s : State) : Result :=
  match s.jobs with
  | [] => .next s
  | j :: _ =>
    match j.state, j.body with
    | .active, .block d _ _ _ => .next (s.blockRowEnd j d).transmit
    | _, _ => .next s

/-! ## TEXT (R99) -/

/-- The bit of a glyph's bitmap at a row and a column of its box (R88). -/
def State.glyphBit (s : State) (g : Glyph) (row col : Nat) : Bool :=
  let addr := Config.blockBytes * (s.font g.font).extent.first + g.offset + row * ((g.width + 7) / 8) + col / 8
  (s.readByte addr).getLsbD (7 - col % 8)

/-- Whether a 1-bit of a placed glyph falls on a pixel of the plane (R99). -/
def State.inked (s : State) (g : PlacedGlyph) (x y : Nat) : Bool :=
  decide (g.left ≤ x) && decide ((x : Int) < g.left + g.glyph.width) && decide (g.top ≤ y) &&
    decide ((y : Int) < g.top + g.glyph.height) &&
    s.glyphBit g.glyph ((y : Int) - g.top).toNat ((x : Int) - g.left).toNat

/-- The value of a pixel after every glyph of a TEXT that inks it, in the order of the codes (R31, R99). -/
def State.inkedValue (s : State) (glyphs : List PlacedGlyph) (depth : Nat) (fn : BitVec 4) (ink : Px) (x y : Nat)
    (old : Px) : Px :=
  glyphs.foldl (fun v g => if s.inked g x y = true then combine depth fn (reduceTo depth ink) v else v) old

/-- Draws the next row of a TEXT (R99). -/
def State.textRow (s : State) (j : Job) (dest : Nat) (t : Rect) (fn : BitVec 4) (ink : Px) : State :=
  let y := t.y + j.rowsDone
  s.drawRow dest t.x t.w y (fun x old =>
    s.inkedValue j.fixed.glyphs (s.plane dest).depth fn ink x y old)

/-- The end of a TEXT row (R99, R100, R101). -/
def State.textRowEnd (s : State) (j : Job) (dest : Nat) (r : Rect) (fn : BitVec 4) (ink : Px) : State :=
  let t := (s.textRow j dest r fn ink).setHead j.nextRow
  t.afterRow j.nextRow r.h (textStatus j.fixed.missing) t

/-- TEXT_ROW_END: the ACTIVE TEXT at the head completes a row of its destination rectangle, which is the
rectangle of its write hold (R46, R98). -/
def execTextRowEnd (s : State) : Result :=
  match s.jobs, s.writeHold with
  | j :: _, some hold =>
    match j.state, j.body with
    | .active, .text dest _ _ _ ink fn _ => .next (s.textRowEnd j dest hold.rect fn ink).transmit
    | _, _ => .next s
  | _, _ => .next s

/-! ## PACK (R19, R20, R21) -/

/-- PACK completes a move: it stops if a stop is pending, ends if every extent has been taken, and goes on
otherwise (R19, R20, R21). -/
def State.extentMoved (s : State) (j : Job) (x : OwnedExtent) (t : Nat) : State :=
  let moved := (s.moveExtent x t).setHead j.nextRow
  if moved.stopPending = true then moved.stopAtBoundary j.nextRow
  else
    let r := moved.packProceed j.nextRow
    if r.2 = true then r.1.examine else r.1

/-- EXTENT_MOVE: the PACK at the head, holding the layout lock, completes the move of one extent. -/
def execExtentMove (s : State) : Result :=
  match s.jobs, s.nextMove with
  | j :: _, some (x, t) =>
    if s.packActive = true ∧ s.layoutLock = true then .next (s.extentMoved j x t).transmit else .next s
  | _, _ => .next s

end Sys2Proof.Machine
end

