-- ==== Sys2Proof/Machine/Load.lean ====
section
/-! DEFINITION. The load unit's commands: DATA, LOAD_ROW_END and DATA_TIMEOUT (Chapter 5). -/

namespace Sys2Proof.Machine

/-! ## DATA (R74, R75) -/

/-- The bytes a LOAD still wants: total bytes less bytes received (section 5.1.1). -/
def JobBody.bytesWanted : JobBody → Nat
  | .load _ _ _ total received => total - received
  | .fill _ => 0
  | .block _ _ _ _ => 0
  | .text _ _ _ _ _ _ _ => 0
  | .showPort _ _ => 0
  | .pack => 0
  | .mark _ => 0

/-- A LOAD that has received n more bytes (R75). -/
def Job.received (j : Job) (n : Nat) : Job :=
  match j.body with
  | .load dest r fn total received => { j with body := .load dest r fn total (received + n) }
  | .fill _ => j
  | .block _ _ _ _ => j
  | .text _ _ _ _ _ _ _ => j
  | .showPort _ _ => j
  | .pack => j
  | .mark _ => j

/-- The row bytes of a LOAD (section 5.1.1). -/
def State.rowBytesOf (s : State) (j : Job) : Nat :=
  match j.body with
  | .load dest r _ _ _ => s.rowByteCount dest r.w
  | .fill _ => 0
  | .block _ _ _ _ => 0
  | .text _ _ _ _ _ _ _ => 0
  | .showPort _ _ => 0
  | .pack => 0
  | .mark _ => 0

/-- The staging buffer's free space (R72). -/
def State.stagingFree (s : State) : Nat := Config.stagingCapacity - s.staging.length

/-- The bytes are staged and the feeding LOAD's bytes received rises (R75). -/
def State.stage (s : State) (bytes : List Byte) : State :=
  { s with
    staging := s.staging ++ bytes
    jobs := updateFirst Job.isLoad (fun j => j.received bytes.length) s.jobs }

/-- An AWAITING_DATA LOAD with a row staged becomes ACTIVE and its timer stops; with less, its timer starts
again (R75, R78). -/
def State.afterStaging (s : State) : State :=
  match s.jobs with
  | [] => s
  | j :: _ =>
    match j.state with
    | .awaitingData =>
      if s.rowBytesOf j ≤ s.staging.length then
        State.setHead { s with dataTimer := .stopped } { j with state := .active }
      else { s with dataTimer := .running Config.dataTimeoutMs }
    | .queued => s
    | .held => s
    | .active => s

/-- DATA: the length, the three checks, and acceptance (R74, R75). A reply of BAD_LENGTH carries no items
(DEDUCED, log entry 13). A DATA resent after a link break is checked like any other, so one that only the free space
refuses is answered WAIT (DEDUCED, log entry 26). -/
def dataRequest (body : List Byte) (s : State) : State :=
  let number := fieldU16 body 0
  let n := body.length - 2
  if body.length < 3 then s.refuse .badLength
  else
    match s.feeding with
    | none => s.answer { status := .notExpected, items := itemU16 number ++ itemU16 0 }
    | some j =>
      if ¬ number = j.number then
        s.answer { status := .notExpected, items := itemU16 number ++ itemU16 j.number }
      else if j.body.bytesWanted < n then
        s.answer { status := .tooLong, items := itemU16 number ++ itemU32 j.body.bytesWanted }
      else if s.stagingFree < n then
        s.answer { status := .wait, items := itemU16 number ++ itemU16 s.stagingFree }
      else
        (s.stage (body.drop 2)).afterStaging.answer
          { status := .ok,
            items := itemU16 number ++ itemU32 (j.body.bytesWanted - n) ++ itemU16 (s.stagingFree - n) }

/-- DATA. -/
def execData (s : State) : Result := .next (s.serve kindData dataRequest)

/-! ## LOAD_ROW_END (R77) -/

/-- The staged pixel for column i of a LOAD's row (R77). -/
def stagedPixel (staging : List Byte) (depth i : Nat) : Px :=
  pixelOfByte depth (staging.getD (i / pixelsPerByte depth) 0) (i % pixelsPerByte depth)

/-- Writes the next row of a LOAD from the front of the staging buffer (R77). -/
def State.loadRow (s : State) (j : Job) (dest : Nat) (r : Rect) (fn : BitVec 4) : State :=
  let depth := (s.plane dest).depth
  s.drawRow dest r.x r.w (r.y + j.rowsDone) (fun x old =>
    combine depth fn (stagedPixel s.staging depth (x - r.x)) old)

/-- The end of a LOAD row: its bytes leave the buffer; the job stops, ends, or begins its next row or waits for
data (R77, R80, R82). -/
def State.loadRowEnd (s : State) (j : Job) (dest : Nat) (r : Rect) (fn : BitVec 4) : State :=
  let n := s.rowByteCount dest r.w
  let t := State.setHead { s.loadRow j dest r fn with staging := s.staging.drop n } j.nextRow
  t.afterRow j.nextRow r.h .ok (t.loadProceed j.nextRow n)

/-- LOAD_ROW_END: the ACTIVE LOAD at the head completes a row. -/
def execLoadRowEnd (s : State) : Result :=
  match s.jobs with
  | [] => .next s
  | j :: _ =>
    match j.state, j.body with
    | .active, .load dest r fn _ _ => .next (s.loadRowEnd j dest r fn).transmit
    | _, _ => .next s

/-! ## DATA_TIMEOUT (R79) -/

/-- DATA_TIMEOUT: the data timer of an AWAITING_DATA LOAD expires, and the job ends DATA_TIMEOUT. -/
def execDataTimeout (s : State) : Result :=
  match s.jobs with
  | [] => .next s
  | j :: _ =>
    if j.state = .awaitingData ∧ s.dataTimer.isRunning = true then
      .next ((s.endHead j .dataTimeout).examine).transmit
    else .next s

end Sys2Proof.Machine
end

