-- ==== Sys2Proof/Machine/NoticeCommands.lean ====
section
/-! DEFINITION. The notice unit's commands: ACK, RESYNC and RETRANSMISSION_TIMER_EXPIRY (Chapter 9). -/

namespace Sys2Proof.Machine

/-- ACK: valid when the number is an OUTSTANDING notice's, else BAD_ACK (R145). -/
def ackRequest (body : List Byte) (s : State) : State :=
  match afterAcked (BitVec.ofNat 8 (fieldU8 body 0)) s.notices.queue with
  | some left =>
    State.answer { s with notices := s.notices.acked left }
      { status := .ok,
        items := itemU8 (s.notices.queue.length - left.length) ++ itemU8 (outstandingCount left) }
  | none =>
    s.answer
      { status := .badAck,
        items := [oldestOutstanding s.notices.queue] ++ itemU8 (outstandingCount s.notices.queue) }

/-- ACK. -/
def execAck (s : State) : Result := .next (s.serve kindAck (fixedLength 1 ackRequest))

/-- RESYNC (R147). -/
def resync (_body : List Byte) (s : State) : State :=
  State.answer { s with notices := s.notices.resynced }
    { status := .ok, items := [s.notices.resynced.nextNumber] ++ itemU8 s.notices.queue.length }

/-- RESYNC. -/
def execResync (s : State) : Result := .next (s.serve kindResync (fixedLength 0 resync))

/-- RETRANSMISSION_TIMER_EXPIRY (R144, R146). -/
def execRetransmissionTimerExpiry (s : State) : Result :=
  if s.notices.timer.isRunning = true then .next (State.transmit { s with notices := s.notices.expire })
  else .next s

end Sys2Proof.Machine
end

