-- ==== Sys2Proof/Machine/Panel.lean ====
section
/-! DEFINITION. The panel ports' configuration: CONFIGURE_PANEL, QUERY, RELEASE_PANEL, CLEAR_FAULT and
PANEL_INFO (Chapter 7). -/

namespace Sys2Proof.Machine

/-! ## CONFIGURE_PANEL (R106, R107) -/

/-- The ranges of CONFIGURE_PANEL's numbers (R106, check 1). -/
def panelRangesOk (q : PanelRequest) : Bool :=
  decide (8 ≤ q.width) && decide (q.width ≤ 2048) && decide (q.width % 8 = 0) &&
    decide (1 ≤ q.height) && decide (q.height ≤ 2048) && (decide (q.depth = 1) || decide (q.depth = 2)) &&
    decide (q.ox ≤ 2047) && decide (q.oy ≤ 2047) &&
    (decide (q.holdOff = 0) || (decide (50 ≤ q.holdOff) && decide (q.holdOff ≤ 5000))) &&
    (decide (q.ghostLimit ≤ 64) || decide (q.ghostLimit = 255)) &&
    (decide (q.busyTimeout = 0) || (decide (100 ≤ q.busyTimeout) && decide (q.busyTimeout ≤ 10000)))

/-- The fields of a CONFIGURE_PANEL, when every one is in its range (R106, check 1; Table 11-6). -/
def panelFields (body : List Byte) : Option PanelRequest :=
  match portOfCode (fieldU8 body 0), modeOfCode (fieldU8 body 11) with
  | some p, some m =>
    let q : PanelRequest :=
      { port := p, width := fieldU16 body 1, height := fieldU16 body 3, depth := fieldU8 body 5,
        handle := fieldU8 body 6, ox := fieldU16 body 7, oy := fieldU16 body 9, mode := m,
        holdOff := fieldU16 body 12, ghostLimit := fieldU8 body 14, busyTimeout := fieldU16 body 15 }
    if panelRangesOk q = true then some q else none
  | _, _ => none

/-- Whether a port is PENDING, STREAMING or SETTLING, and so PORT_BUSY (R106, R110). -/
def PortRec.busy (r : PortRec) : Bool :=
  match r.state with
  | .unconfigured => false
  | .idle => false
  | .pending _ => true
  | .streaming _ _ _ => true
  | .settling _ _ => true
  | .fault _ => false

/-- Checks 2 to 5 of a CONFIGURE_PANEL (R106): the status of the first that fails, if one does. -/
def State.panelStatus (s : State) (q : PanelRequest) : Option Status :=
  let p := s.plane q.handle
  if (s.port q.port).busy = true then some .portBusy
  else if p.state = .free then some .noSuchPlane
  else if p.state = .retiring then some .retiring
  else if ¬ p.depth = q.depth then some .depthMismatch
  else if ¬ (q.ox + q.width ≤ p.width ∧ q.oy + q.height ≤ p.height) then some .outOfBounds
  else none

/-- CONFIGURE_PANEL: checks 1 to 5, and then the driver query's claim on the panel bus (R106, R107). -/
def configurePanel (body : List Byte) (s : State) : State :=
  match panelFields body with
  | none => s.refuse .badValue
  | some q =>
    match s.panelStatus q with
    | some st => s.refuse st
    | none => (s.occupy (.query q)).arbitrate

/-- CONFIGURE_PANEL. -/
def execConfigurePanel (s : State) : Result :=
  .next (s.serve kindConfigurePanel (fixedLength 17 configurePanel))

/-! ## QUERY (R107, R108) -/

/-- A hold-off of 0 selects 200 ms (R108). -/
def holdOffInForce (n : Nat) : Nat := if n = 0 then Config.defaultHoldOff else n

/-- A ghost limit of 255 selects 8 (R108). -/
def ghostLimitInForce (n : Nat) : Nat := if n = 255 then Config.defaultGhostLimit else n

/-- A busy timeout of 0 selects 4000 ms (R108). -/
def busyTimeoutInForce (n : Nat) : Nat := if n = 0 then Config.defaultBusyTimeout else n

/-- The record a passing CONFIGURE_PANEL gives its port (R108). -/
def configuredPort (q : PanelRequest) (id : Nat) : PortRec :=
  { state := .idle, width := q.width, height := q.height, depth := q.depth, boundPlane := q.handle,
    ox := q.ox, oy := q.oy, mode := q.mode, holdOff := holdOffInForce q.holdOff,
    ghostLimit := ghostLimitInForce q.ghostLimit, busyTimeout := busyTimeoutInForce q.busyTimeout,
    driverId := id, ghostCount := ghostLimitInForce q.ghostLimit, damage := [], whole := true,
    force := false, again := false,
    holdOffTimer :=
      (match q.mode with
        | .manual => .stopped
        | .auto => .running (holdOffInForce q.holdOff)),
    busyTimer := .stopped }

/-- A port leaves the bindings of the plane it is bound to, if any (R9). -/
def State.unbind (s : State) (p : Port) : State :=
  let h := (s.port p).boundPlane
  if h = 0 then s else s.setPlane h ((s.plane h).setBound p false)

/-- A port joins the bindings of a plane (R9). -/
def State.bind (s : State) (p : Port) (h : Nat) : State := s.setPlane h ((s.plane h).setBound p true)

/-- A CONFIGURE_PANEL takes effect at its port (R108). -/
def State.configure (s : State) (q : PanelRequest) (id : Nat) : State :=
  ((s.unbind q.port).bind q.port q.handle).setPort q.port (configuredPort q id)

/-- The OK reply of a CONFIGURE_PANEL (R108, Table 11-6). -/
def configureReply (q : PanelRequest) (id : Nat) : Reply :=
  { status := .ok,
    items := itemU8 (portCode q.port) ++ itemU8 id ++ itemU16 (holdOffInForce q.holdOff) ++
      itemU8 (ghostLimitInForce q.ghostLimit) ++ itemU16 (busyTimeoutInForce q.busyTimeout) }

/-- The result of the driver query: an ID from 1 to 254 passes check 6 (R106, R107). -/
def State.queryResult (s : State) (q : PanelRequest) (id : Byte) : State :=
  if 1 ≤ id.toNat ∧ id.toNat ≤ 254 then (s.configure q id.toNat).answer (configureReply q id.toNat)
  else s.answer { status := .noDriver, items := [id] }

/-- QUERY: the transaction ends, the result takes effect, and the query gives the bus back (R107). -/
def execQuery (id : Byte) (s : State) : Result :=
  match s.bus.owner, s.link.work with
  | .query, some (.query q) => .next (s.queryResult q id).giveBack.transmit
  | _, _ => .next s

/-! ## RELEASE_PANEL (R110) -/

/-- RELEASE_PANEL (R110). -/
def releasePanel (body : List Byte) (s : State) : State :=
  match portOfCode (fieldU8 body 0) with
  | none => s.refuse .badValue
  | some p =>
    if (s.port p).state = .unconfigured then s.refuse .notConfigured
    else if (s.port p).busy = true then s.refuse .portBusy
    else ((s.unbind p).setPort p unconfiguredPort).confirm

/-- RELEASE_PANEL. -/
def execReleasePanel (s : State) : Result :=
  .next (s.serve kindReleasePanel (fixedLength 1 releasePanel))

/-! ## CLEAR_FAULT (R111) -/

/-- A port that leaves FAULT with its damage (R111). -/
def PortRec.cleared (r : PortRec) : PortRec :=
  { r with
    state := .idle
    holdOffTimer := if r.mode = .auto ∧ r.damagePresent = true then .running r.holdOff else .stopped }

/-- CLEAR_FAULT (R111). -/
def clearFault (body : List Byte) (s : State) : State :=
  match portOfCode (fieldU8 body 0) with
  | none => s.refuse .badValue
  | some p =>
    match (s.port p).state with
    | .fault c =>
      (s.setPort p (s.port p).cleared).answer
        { status := .ok, items := itemU8 (portCode p) ++ itemU8 c.code }
    | _ => s.refuse .notInFault

/-- CLEAR_FAULT. -/
def execClearFault (s : State) : Result :=
  .next (s.serve kindClearFault (fixedLength 1 clearFault))

/-! ## PANEL_INFO (R112, Table 11-9) -/

/-- A list of rectangles with its count. -/
def rectItems (l : List Rect) : List Byte := itemU8 l.length ++ l.flatMap itemRect

/-- The refresh set as PANEL_INFO reports it: waveform 0 and count 0 outside STREAMING and SETTLING (R165). -/
def PortState.setItems : PortState → List Byte
  | .unconfigured => itemU8 0 ++ rectItems []
  | .idle => itemU8 0 ++ rectItems []
  | .pending _ => itemU8 0 ++ rectItems []
  | .streaming set _ _ => itemU8 set.waveform.code ++ rectItems set.rects
  | .settling set _ => itemU8 set.waveform.code ++ rectItems set.rects
  | .fault _ => itemU8 0 ++ rectItems []

/-- The port record as PANEL_INFO reports it (Table 11-9). -/
def PortRec.items (r : PortRec) (p : Port) : List Byte :=
  itemU8 (portCode p) ++ itemU8 r.state.code ++ itemU16 r.width ++ itemU16 r.height ++ itemU8 r.depth ++
    itemU8 r.boundPlane ++ itemU16 r.ox ++ itemU16 r.oy ++ itemU8 r.mode.code ++ itemU16 r.holdOff ++
    itemU8 r.ghostLimit ++ itemU16 r.busyTimeout ++ itemU8 r.driverId ++ itemU8 r.ghostCount ++
    [r.flagsByte] ++ itemU8 r.state.faultCode ++ rectItems r.damage ++ r.state.setItems

/-- PANEL_INFO (R112). -/
def panelInfo (body : List Byte) (s : State) : State :=
  match portOfCode (fieldU8 body 0) with
  | none => s.refuse .badValue
  | some p => s.answer { status := .ok, items := (s.port p).items p }

/-- PANEL_INFO. -/
def execPanelInfo (s : State) : Result := .next (s.serve kindPanelInfo (fixedLength 1 panelInfo))

end Sys2Proof.Machine
end

