-- ==== Sys2Proof/Machine/Patterns.lean ====
section
/-! DEFINITION. The pattern table's commands: SET_PATTERN and GET_PATTERN (R33, R34). -/

namespace Sys2Proof.Machine

/-- SET_PATTERN: the entry is replaced whole (R33). -/
def setPattern (body : List Byte) (s : State) : State :=
  let i := fieldU8 body 0
  if i ≤ 15 then
    State.answer { s with patterns := s.patterns.setIfInBounds i (patternOfBytes (body.drop 1)) }
      { status := .ok, items := itemU8 i }
  else s.refuse .badValue

/-- SET_PATTERN. -/
def execSetPattern (s : State) : Result := .next (s.serve kindSetPattern (fixedLength 17 setPattern))

/-- GET_PATTERN: the entry's 64 values as 16 bytes (R34). -/
def getPattern (body : List Byte) (s : State) : State :=
  let i := fieldU8 body 0
  if i ≤ 15 then s.answer { status := .ok, items := itemU8 i ++ patternBytes (s.patternEntry i) }
  else s.refuse .badValue

/-- GET_PATTERN. -/
def execGetPattern (s : State) : Result := .next (s.serve kindGetPattern (fixedLength 1 getPattern))

end Sys2Proof.Machine
end

