-- ==== Sys2Proof/Machine/Refresh.lean ====
section
/-! DEFINITION. The refresh cycle of a panel port: WINDOW, PIXELS, UPDATE, ABORT, BUSY_LINE_RISE,
BUSY_LINE_FALL, BUSY_TIMER_EXPIRY and HOLD_OFF_TIMER_EXPIRY (Chapter 8). -/

namespace Sys2Proof.Machine

/-! ## The panel bus transactions of a STREAMING port (R131, R132, R137, R138) -/

/-- The STREAMING port on the panel bus with its refresh set, its command in progress and its mark. -/
def State.onBus (s : State) : Option (Port × RefreshSet × StreamCommand × Bool) :=
  match s.bus.owner with
  | .none => none
  | .query => none
  | .port p =>
    match (s.port p).state with
    | .streaming set cmd aborting => some (p, set, cmd, aborting)
    | _ => none

/-- The port on the bus goes on to the command that follows the one completed (R131). -/
def State.nextTransaction (s : State) (p : Port) (set : RefreshSet) (cmd : StreamCommand) (aborting : Bool) :
    State :=
  s.setPort p
    { s.port p with state := .streaming set (s.followingCommand (s.port p) cmd aborting) aborting }

/-- WINDOW: a WINDOW transaction completes (R131). -/
def execWindow (s : State) : Result :=
  match s.onBus with
  | some (p, set, .window r rest, aborting) => .next (s.nextTransaction p set (.window r rest) aborting)
  | _ => .next s

/-- PIXELS: a PIXELS transaction completes (R131). -/
def execPixels (s : State) : Result :=
  match s.onBus with
  | some (p, set, .pixels r row bytes rest, aborting) =>
    .next (s.nextTransaction p set (.pixels r row bytes rest) aborting)
  | _ => .next s

/-- What follows a port's leaving STREAMING: the job engine's look at its head, and the give-back of the bus
with the grant it brings, in either order (R17, R45, R46, R128, R129; log entry 4). -/
def State.afterStreaming (s : State) (order : BoundaryOrder) : State :=
  match order with
  | .jobFirst => s.recheckHead.giveBack
  | .portFirst => s.giveBack.recheckHead

/-- A port as its UPDATE ends: SETTLING, its set kept, its busy timer started; after an ENGINE reset the set is
abandoned (R132, R138). -/
def PortRec.settle (r : PortRec) (set : RefreshSet) (abandoned : Bool) : PortRec :=
  { r with state := .settling set abandoned, busyTimer := .running r.busyTimeout }

/-- UPDATE: the UPDATE transaction ends (R132); a FULL reset may have waited for it (R137). -/
def execUpdate (order : BoundaryOrder) (s : State) : Result :=
  match s.onBus with
  | some (p, set, .update, aborting) =>
    .next (((s.setPort p ((s.port p).settle set aborting)).afterStreaming order).tryFullReset).transmit
  | _ => .next s

/-- ABORT: the ABORT sent at a reset ends; the set is discarded and the port is IDLE (R138), or the FULL reset
that waited for it takes effect (R137). A head accepted since the reset is looked at again, and an again flag set since
the reset is kept (DEDUCED, log entry 8). -/
def execAbort (order : BoundaryOrder) (s : State) : Result :=
  match s.onBus with
  | some (p, _, .abort, _) =>
    .next (((s.setPort p { s.port p with state := .idle }).afterStreaming order).tryFullReset).transmit
  | _ => .next s

/-! ## The busy line (R125, R132, R133, R138) -/

/-- BUSY_LINE_RISE: a driver raises its busy line (R132). -/
def execBusyLineRise (p : Port) (s : State) : Result := .next (s.setBusyLine p true)

/-- The ghost count after a completed refresh (R126, R133). -/
def ghostAfter (w : Waveform) (count : Nat) : Nat :=
  match w with
  | .partialWave => count + 1
  | .fullWave => 0

/-- A port as its refresh completes: timer stopped, ghost count updated, set discarded, IDLE with the again flag
cleared (R133). -/
def PortRec.completed (r : PortRec) (set : RefreshSet) : PortRec :=
  { r with
    state := .idle
    busyTimer := .stopped
    ghostCount := ghostAfter set.waveform r.ghostCount
    again := false }

/-- Whether a port that leaves SETTLING goes on to PENDING (R133). -/
def PortRec.goesOn (r : PortRec) : Bool := r.again && (r.damagePresent || r.force)

/-- The REFRESH_END of a completed refresh (R133, R136). -/
def refreshEnd (p : Port) (r : PortRec) (set : RefreshSet) : NoticeContent :=
  .refreshEnd p set.waveform set.rects.length (ghostAfter set.waveform r.ghostCount)

/-- The refresh of a SETTLING port is complete (R133). -/
def State.completeRefresh (s : State) (p : Port) (set : RefreshSet) : State :=
  let r := s.port p
  let t := (s.setPort p (r.completed set)).pushNotice (refreshEnd p r set)
  if r.goesOn = true then t.claimBus p else t

/-- A port whose abandoned set is discarded: IDLE, with the hold-off timer started in AUTO mode (R118, R138). -/
def PortRec.abandonedIdle (r : PortRec) : PortRec :=
  { r with state := .idle, busyTimer := .stopped, holdOffTimer := r.freshHoldOff }

/-- An abandoned SETTLING ends, at the fall or at the expiry, with no notice and the ghost count as it stands
(R138). That a port that goes on to PENDING has its again flag cleared at the expiry as at the fall is DEDUCED (R122,
log entry 28). -/
def State.endAbandoned (s : State) (p : Port) : State :=
  let r := s.port p
  if r.again = true then
    (s.setPort p { r with state := .idle, busyTimer := .stopped, again := false }).claimBus p
  else s.setPort p r.abandonedIdle

/-- What the fall of a port's busy line, now low, brings (R125, R133, R138). -/
def State.lineFallen (s : State) (p : Port) : State :=
  match (s.port p).state with
  | .settling set false => s.completeRefresh p set
  | .settling _ true => s.endAbandoned p
  | .pending .busy => (s.setPort p { s.port p with busyTimer := .stopped }).claimBus p
  | _ => s

/-- BUSY_LINE_FALL: the busy line of a port passes from high to low. A line that is low does not fall. -/
def execBusyLineFall (p : Port) (s : State) : Result :=
  if s.busyLine p = true then .next ((s.setBusyLine p false).lineFallen p).transmit else .next s

/-! ## The busy timer (R125, R134, R138) -/

/-- A port that enters FAULT: again cleared, both timers stopped (R125, R134). -/
def PortRec.faulted (r : PortRec) (c : FaultCause) : PortRec :=
  { r with state := .fault c, again := false, holdOffTimer := .stopped, busyTimer := .stopped }

/-- A port enters FAULT and hands over its PANEL_FAULT (R125, R134, R136). -/
def State.enterFault (s : State) (p : Port) (r : PortRec) (c : FaultCause) : State :=
  (s.setPort p (r.faulted c)).pushNotice (.panelFault p c)

/-- What the expiry of a port's busy timer brings (R125, R134, R138). -/
def State.busyExpired (s : State) (p : Port) : State :=
  match (s.port p).state with
  | .settling set false => s.enterFault p ((s.port p).restore set) .busyTimeout
  | .settling _ true => s.endAbandoned p
  | .pending .busy => s.enterFault p (s.port p) .busyStuck
  | _ => s

/-- BUSY_TIMER_EXPIRY: the busy timer of a port, which runs, expires. -/
def execBusyTimerExpiry (p : Port) (s : State) : Result :=
  if (s.port p).busyTimer.isRunning = true then .next (s.busyExpired p).transmit else .next s

/-! ## The hold-off timer (R121) -/

/-- What the expiry of a port's hold-off timer, now stopped, brings (R121). -/
def State.holdOffExpired (s : State) (p : Port) : State :=
  match (s.port p).state with
  | .unconfigured => s
  | .idle => if (s.port p).damagePresent = true then s.claimBus p else s
  | .pending _ => s
  | .streaming _ _ _ => s.setPort p { s.port p with again := true }
  | .settling _ _ => s.setPort p { s.port p with again := true }
  | .fault _ => s

/-- HOLD_OFF_TIMER_EXPIRY: the hold-off timer of a port, which runs, expires (R121). -/
def execHoldOffTimerExpiry (p : Port) (s : State) : Result :=
  if (s.port p).holdOffTimer.isRunning = true then
    .next (State.holdOffExpired (s.setPort p { s.port p with holdOffTimer := .stopped }) p).transmit
  else .next s

end Sys2Proof.Machine
end

