-- ==== Sys2Proof/Machine/Dispatch.lean ====
section
/-! DEFINITION. The dispatch of a command to its meaning: one arm per constructor. -/

namespace Sys2Proof.Machine

def exec (i : Instr) (s : State) : Host.Outcome State Fault Refusal :=
  match i with
  | .frameReceived check => Sys2Proof.Machine.execFrameReceived check s
  | .frameGapTimeout => Sys2Proof.Machine.execFrameGapTimeout s
  | .linkBreak => Sys2Proof.Machine.execLinkBreak s
  | .powerOnReset rate1 rate0 => Sys2Proof.Machine.execPowerOnReset rate1 rate0 s
  | .unknownKind => Sys2Proof.Machine.execUnknownKind s
  | .ping => Sys2Proof.Machine.execPing s
  | .reset => Sys2Proof.Machine.execReset s
  | .engineReset => Sys2Proof.Machine.execEngineReset s
  | .fullReset => Sys2Proof.Machine.execFullReset s
  | .ack => Sys2Proof.Machine.execAck s
  | .resync => Sys2Proof.Machine.execResync s
  | .newPlane => Sys2Proof.Machine.execNewPlane s
  | .newPlaneFillEnd => Sys2Proof.Machine.execNewPlaneFillEnd s
  | .freePlane => Sys2Proof.Machine.execFreePlane s
  | .planeInfo => Sys2Proof.Machine.execPlaneInfo s
  | .storeInfo => Sys2Proof.Machine.execStoreInfo s
  | .setPattern => Sys2Proof.Machine.execSetPattern s
  | .getPattern => Sys2Proof.Machine.execGetPattern s
  | .submit => Sys2Proof.Machine.execSubmit s
  | .cancel => Sys2Proof.Machine.execCancel s
  | .flush => Sys2Proof.Machine.execFlush s
  | .queueInfo => Sys2Proof.Machine.execQueueInfo s
  | .data => Sys2Proof.Machine.execData s
  | .fillRowEnd => Sys2Proof.Machine.execFillRowEnd s
  | .blockRowEnd => Sys2Proof.Machine.execBlockRowEnd s
  | .loadRowEnd => Sys2Proof.Machine.execLoadRowEnd s
  | .textRowEnd => Sys2Proof.Machine.execTextRowEnd s
  | .dataTimeout => Sys2Proof.Machine.execDataTimeout s
  | .extentMove => Sys2Proof.Machine.execExtentMove s
  | .newFont => Sys2Proof.Machine.execNewFont s
  | .glyph => Sys2Proof.Machine.execGlyph s
  | .dropFont => Sys2Proof.Machine.execDropFont s
  | .fontInfo => Sys2Proof.Machine.execFontInfo s
  | .configurePanel => Sys2Proof.Machine.execConfigurePanel s
  | .releasePanel => Sys2Proof.Machine.execReleasePanel s
  | .clearFault => Sys2Proof.Machine.execClearFault s
  | .panelInfo => Sys2Proof.Machine.execPanelInfo s
  | .query id => Sys2Proof.Machine.execQuery id s
  | .window => Sys2Proof.Machine.execWindow s
  | .pixels => Sys2Proof.Machine.execPixels s
  | .update order => Sys2Proof.Machine.execUpdate order s
  | .abort order => Sys2Proof.Machine.execAbort order s
  | .busyLineFall p => Sys2Proof.Machine.execBusyLineFall p s
  | .busyTimerExpiry p => Sys2Proof.Machine.execBusyTimerExpiry p s
  | .holdOffTimerExpiry p => Sys2Proof.Machine.execHoldOffTimerExpiry p s
  | .replyFrameSent order => Sys2Proof.Machine.execReplyFrameSent order s
  | .noticeFrameSent => Sys2Proof.Machine.execNoticeFrameSent s
  | .retransmissionTimerExpiry => Sys2Proof.Machine.execRetransmissionTimerExpiry s
  | .byteReceived value stopBit => Sys2Proof.Machine.execByteReceived value stopBit s
  | .busyLineRise p => Sys2Proof.Machine.execBusyLineRise p s

end Sys2Proof.Machine
end

