-- ==== Sys2Proof/Safety.lean ====
section
/-! DEFINITION. The laws the manual states of the whole part, as properties of one state, and the words the
statements use: which request is next, and what a reply written into its slot leaves. -/

namespace Sys2Proof.Machine

/-! ## Requests and replies -/

/-- The request handler is free and the earliest HELD slot, which stands between `before` and `after` in order of
arrival, holds this request (R154, R157). -/
structure NextRequest (s : State) (kind tag : Byte) (body : List Byte) (before after : List Slot) : Prop where
  free : s.link.work = none
  slots : s.link.slots = before ++ { tag := tag, kind := kind, inHand := false, content := .held body } :: after
  noneEarlier : ∀ sl ∈ before, sl.isHeld = false
  noneInHand : ∀ sl ∈ before ++ after, sl.inHand = false

/-- The state with that slot ANSWERED and the handler free (R157). -/
def State.replied (s : State) (kind tag : Byte) (r : Reply) (before after : List Slot) : State :=
  { s with
    link := { s.link with
      slots := before ++ { tag := tag, kind := kind, inHand := false, content := .answered r false } :: after
      work := none } }

/-- The state with that slot in hand and the handler occupied (R157). -/
def State.working (s : State) (kind tag : Byte) (body : List Byte) (w : Work) (before after : List Slot) : State :=
  { s with
    link := { s.link with
      slots := before ++ { tag := tag, kind := kind, inHand := true, content := .held body } :: after
      work := some w } }

/-! ## The bytes of a SUBMIT (R41, R42, Tables 3-3 and 11-7) -/

/-- The number in one byte of a body. -/
def bodyU8 (body : List Byte) (i : Nat) : Nat := (body.getD i 0).toNat

/-- The number in two bytes of a body, most significant first. -/
def bodyU16 (body : List Byte) (i : Nat) : Nat := bodyU8 body i * 256 + bodyU8 body (i + 1)

/-- The number that two bytes of a body hold in two's complement. -/
def bodyS16 (body : List Byte) (i : Nat) : Int :=
  if bodyU16 body i < 32768 then (bodyU16 body i : Int) else (bodyU16 body i : Int) - 65536

/-- Check 1 of a SUBMIT: the lengths of Table 11-7, and two bytes at least for a kind that is none of the seven (R41). -/
def SubmitLengthFits (body : List Byte) : Prop :=
  let kind := bodyU8 body 0
  (kind = 1 → body.length = 15) ∧ (kind = 2 → body.length = 20) ∧ (kind = 3 → body.length = 12) ∧
    (kind = 4 → ∃ codes, 1 ≤ codes ∧ codes ≤ 128 ∧ body.length = 10 + 2 * codes) ∧ (kind = 5 → body.length = 4) ∧
    (kind = 6 → body.length = 2) ∧ (kind = 7 → body.length = 6) ∧ 2 ≤ body.length

/-- The ranges of a rectangle's four fields, at offset 3 (Table 3-3). -/
def SubmitRectInRange (body : List Byte) : Prop :=
  bodyU16 body 3 ≤ 2047 ∧ bodyU16 body 5 ≤ 2047 ∧ (1 ≤ bodyU16 body 7 ∧ bodyU16 body 7 ≤ 2048) ∧
    1 ≤ bodyU16 body 9 ∧ bodyU16 body 9 ≤ 2048

/-- Check 2 of a SUBMIT: a kind that is known, a report flag of 0 or 1, and every field in the range of Table 3-3, with
the source kinds of R28 and the codes of Table 11-4. -/
def SubmitInRange (body : List Byte) : Prop :=
  let kind := bodyU8 body 0
  let source := bodyU8 body 11
  let draws := SubmitRectInRange body ∧ bodyU8 body 12 ≤ 3 ∧ bodyU8 body 13 ≤ 15 ∧ bodyU8 body 14 ≤ 15
  1 ≤ kind ∧ kind ≤ 7 ∧ bodyU8 body 1 ≤ 1 ∧ (kind = 1 → draws ∧ (source = 0 ∨ source = 1)) ∧
    (kind = 2 → draws ∧ (source = 2 ∨ source = 3) ∧ bodyU16 body 16 ≤ 2047 ∧ bodyU16 body 18 ≤ 2047) ∧
    (kind = 3 → SubmitRectInRange body ∧ bodyU8 body 11 ≤ 15) ∧
    (kind = 4 → bodyU8 body 3 ≤ 3 ∧ bodyU8 body 8 ≤ 3 ∧ bodyU8 body 9 ≤ 15) ∧
    (kind = 5 → bodyU8 body 2 ≤ 1 ∧ bodyU8 body 3 ≤ 1)

/-- The handles a SUBMIT names: the destination of a FILL, BLOCK, LOAD or TEXT, and the source of a BLOCK (R42). -/
def submitHandles (body : List Byte) : List Nat :=
  let kind := bodyU8 body 0
  if kind = 2 then [bodyU8 body 2, bodyU8 body 15]
  else if kind = 1 ∨ kind = 3 ∨ kind = 4 then [bodyU8 body 2]
  else []

/-- The destination rectangle of a SUBMIT of a FILL, BLOCK or LOAD. -/
def submitRect (body : List Byte) : Rect :=
  ⟨bodyU16 body 3, bodyU16 body 5, bodyU16 body 7, bodyU16 body 9⟩

/-- The source rectangle of a SUBMIT of a BLOCK. -/
def submitSourceRect (body : List Byte) : Rect :=
  ⟨bodyU16 body 16, bodyU16 body 18, bodyU16 body 7, bodyU16 body 9⟩

/-- Check 6 of a SUBMIT on one rectangle: it lies inside a plane (R42). -/
def State.inPlane (s : State) (r : Rect) (h : Nat) : Prop :=
  r.x + r.w ≤ (s.plane h).width ∧ r.y + r.h ≤ (s.plane h).height

/-- Check 7 of a SUBMIT: the columns of a LOAD's rectangle begin and end at byte bounds of its plane's rows (R42). -/
def State.onBytes (s : State) (r : Rect) (h : Nat) : Prop :=
  let n := if (s.plane h).depth = 2 then 4 else 8
  r.x % n = 0 ∧ r.w % n = 0

/-- Checks 5, 6 and 7 of a SUBMIT all pass (R42). -/
def State.submitFits (s : State) (body : List Byte) : Prop :=
  let kind := bodyU8 body 0
  let dest := bodyU8 body 2
  (kind = 1 → s.inPlane (submitRect body) dest) ∧
    (kind = 2 → (s.plane (bodyU8 body 15)).depth = (s.plane dest).depth ∧ s.inPlane (submitRect body) dest ∧
      s.inPlane (submitSourceRect body) (bodyU8 body 15)) ∧
    (kind = 3 → s.inPlane (submitRect body) dest ∧ s.onBytes (submitRect body) dest)

/-- The fields of the job record that a SUBMIT's bytes spell, with a LOAD's total bytes (R43, R71, Table 11-7). -/
def State.submittedJob (s : State) (body : List Byte) : JobBody :=
  let kind := bodyU8 body 0
  let dest := bodyU8 body 2
  let rect := submitRect body
  let draws : DrawFields :=
    { dest := dest, rect := rect,
      source := if bodyU8 body 11 = 0 then .const else if bodyU8 body 11 = 1 then .pattern
        else if bodyU8 body 11 = 2 then .plane else .planeAndPattern,
      constant := BitVec.ofNat 2 (bodyU8 body 12), pattern := bodyU8 body 13,
      fn := BitVec.ofNat 4 (bodyU8 body 14) }
  if kind = 1 then .fill draws
  else if kind = 2 then .block draws (bodyU8 body 15) (bodyU16 body 16) (bodyU16 body 18)
  else if kind = 3 then
    .load dest rect (BitVec.ofNat 4 (bodyU8 body 11)) (rect.w * (s.plane dest).depth / 8 * rect.h) 0
  else if kind = 4 then
    .text dest (bodyU8 body 3) (bodyS16 body 4) (bodyS16 body 6) (BitVec.ofNat 2 (bodyU8 body 8))
      (BitVec.ofNat 4 (bodyU8 body 9))
      ((List.range ((body.length - 10) / 2)).map (fun i => bodyU16 body (10 + 2 * i)))
  else if kind = 5 then .showPort (if bodyU8 body 2 = 0 then .a else .b) (decide (bodyU8 body 3 = 1))
  else if kind = 6 then .pack
  else .mark (bodyU16 body 2 * 65536 + bodyU16 body 4)

/-! ## Releases at the job engine and the ports (R48, R119) -/

/-- A port as a job's damage leaves it: the rows written, of the rectangle under the write hold, are added where the
port is bound to the plane (R48). -/
def State.damagedPort (s : State) (rows : Nat) (p : Port) : PortRec :=
  match s.writeHold with
  | none => s.port p
  | some w =>
    if 0 < rows ∧ (s.plane w.plane).bound p = true then (s.port p).addPlaneDamage { w.rect with h := rows }
    else s.port p

/-- A port that leaves a wait for the bus wait, if it is in that wait (R119). -/
def PortRec.claimsFrom (r : PortRec) (w : Wait) : PortRec :=
  if r.state = .pending w then { r with state := .pending .bus } else r

/-- What the damage of a job and the release of its write hold leave: the damage at the ports, no write hold, every port
that was in the hold wait in the bus wait, and the arbiter's choice among the claims (R48, R119, R130). -/
def State.holdFreed (s : State) (rows : Nat) : State :=
  match s.writeHold with
  | none => s
  | some _ =>
    State.arbitrate
      { s with
        portA := (s.damagedPort rows .a).claimsFrom .hold
        portB := (s.damagedPort rows .b).claimsFrom .hold
        writeHold := none }

/-! ## Resets (R23, R57, R137, R138, R149, R161) -/

/-- The part as a FULL reset leaves it: the power-on values, but for the rate and the content of the store, and STARTED
(RESET_FULL) queued and not begun. The levels of the busy lines are the drivers', and the count of power-ons and the
queue of commands the model's own. -/
def State.fullResetDone (s : State) : State :=
  { State.reset with
    mem := s.mem
    notices :=
      { queue := [{ content := .started .resetFull, state := .waiting, seq := none, resendDue := false,
                    lostMark := false }],
        counter := 0, state := .sending, retries := 0, timer := .stopped, lost := false }
    link :=
      { rate := s.link.rate, receiver := .hunt, flags := ⟨false, false, false⟩, slots := [], cache := [],
        sending := none, work := none }
    busyLineA := s.busyLineA
    busyLineB := s.busyLineB
    powerOns := s.powerOns
    pending := s.pending }

/-- What an ENGINE reset leaves of a configured port's record, but for its state and its timers: the whole flag alone as
its damage, and the ghost count at the limit (R118, R138). -/
def PortRec.wholeAlone (r : PortRec) : PortRec :=
  { r with damage := [], whole := true, force := false, again := false, ghostCount := r.ghostLimit }

/-- The hold-off timer that an ENGINE reset starts: in AUTO mode alone (R118). -/
def PortRec.autoTimer (r : PortRec) : Timer := if r.mode = .auto then .running r.holdOff else .stopped

/-- `t` is the part as an ENGINE reset that takes effect in `s` leaves it, before the transmitter's choice: no job, no
hold, no staged byte and no cached reply; LIVE planes with a ref count of 0 and every other record FREE, the extents of
RETIRING planes returned in ascending order of handle and no notice of them; each configured port as R138's table says;
STARTED (RESET_ENGINE) appended; and the rest kept. -/
structure EngineResetDone (s t : State) : Prop where
  queue : t.jobs = [] ∧ t.jobCounter = s.jobCounter ∧ t.writeHold = none ∧ t.layoutLock = false
  load : t.staging = [] ∧ t.dataTimer = .stopped
  notices : t.notices = s.notices.push (.started .resetEngine)
  link : t.link = { s.link with cache := [], work := none }
  live : ∀ h, (s.plane h).state = .live → t.plane h = { s.plane h with refCount := 0 }
  others : ∀ h, ¬ (s.plane h).state = .live → t.plane h = freePlaneRecord
  freeList : t.freeList =
    (allHandles.filter (fun h => decide ((s.plane h).state = .retiring))).foldl
      (fun l h => releaseExtent l (s.plane h).extent) s.freeList
  unconfigured : ∀ p, (s.port p).state = .unconfigured → t.port p = s.port p
  idle : ∀ p, ((s.port p).state = .idle ∨ ∃ w, (s.port p).state = .pending w) →
    t.port p =
      { (s.port p).wholeAlone with
        state := .idle, busyTimer := .stopped, holdOffTimer := (s.port p).autoTimer }
  streaming : ∀ p set cmd mark, (s.port p).state = .streaming set cmd mark →
    t.port p =
      { (s.port p).wholeAlone with
        state := .streaming set cmd true
        holdOffTimer := if cmd = .update then (t.port p).holdOffTimer else (s.port p).autoTimer }
  settling : ∀ p set mark, (s.port p).state = .settling set mark →
    t.port p =
      { (s.port p).wholeAlone with state := .settling set true, holdOffTimer := (t.port p).holdOffTimer }
  fault : ∀ p c, (s.port p).state = .fault c →
    t.port p = { (s.port p).wholeAlone with state := .fault c, holdOffTimer := .stopped }
  rest : t.mem = s.mem ∧ t.patterns = s.patterns ∧ t.fonts = s.fonts ∧ t.glyphs = s.glyphs ∧ t.bus = s.bus ∧
    t.busyLineA = s.busyLineA ∧ t.busyLineB = s.busyLineB ∧ t.powerOns = s.powerOns ∧ t.pending = s.pending

/-! ## Notice unit (R139, R143, R144) -/

/-- The sequence numbers of the first k notices: consecutive modulo 256, and just below the counter. -/
def numbersBelow (counter : BitVec 8) (k : Nat) : List (Option (BitVec 8)) :=
  (List.range k).map (fun i => some (counter - BitVec.ofNat 8 k + BitVec.ofNat 8 i))

/-- The laws of the notice unit: at most 16 notices; the OUTSTANDING ones come first and are at most 4; the
numbers held are those of the first notices, consecutive; no WAITING notice has resend due; the timer runs exactly
while a notice is OUTSTANDING and the unit is SENDING; the retry count is at most 3. -/
def NoticeLaw (u : NoticeUnit) : Prop :=
  u.queue.length ≤ 16 ∧ u.retries ≤ 3 ∧
    ∃ out numbered : Nat,
      out ≤ 4 ∧ out ≤ numbered ∧ numbered ≤ u.queue.length ∧
        u.queue.map (·.state) =
          List.replicate out NoticeState.outstanding ++
            List.replicate (u.queue.length - out) NoticeState.waiting ∧
        u.queue.map (·.seq) =
          numbersBelow u.counter numbered ++ List.replicate (u.queue.length - numbered) none ∧
        (∀ n ∈ u.queue, n.state = .waiting → n.resendDue = false) ∧
        u.timer = (if u.state = .sending ∧ 0 < out then .running 1000 else .stopped)

/-! ## Host link (R154, R156, R157) -/

/-- The law of the reply cache: at most 8 entries with pairwise distinct tag and kind, none with tag 0 (R156). -/
def CacheLaw (cache : List CacheEntry) : Prop :=
  cache.length ≤ 8 ∧ cache.Pairwise (fun d e => ¬ (d.tag = e.tag ∧ d.kind = e.kind)) ∧ ∀ e ∈ cache, ¬ e.tag = 0

/-- Whether the handler has a slot in hand with this work: a request under way, or a RESET whose reply is not yet
sent. A reset that is due or under way has none, as its slot has been freed (R157, R161). -/
def Work.keepsSlot : Work → Bool
  | .fill _ _ => true
  | .cancel _ => true
  | .flush _ _ _ => true
  | .query _ => true
  | .resetReply _ => true
  | .resetDue _ => false
  | .engineStopping => false
  | .fullWaiting => false

/-- The laws of the intake slots: at most 4; requests of a tag other than 0 pairwise distinct in tag and kind; at
most one slot in hand, and none while the handler has none; at most one reply begun, and none unless the
transmitter is sending a reply (R154, R157, R159). -/
def SlotLaw (l : Link) : Prop :=
  l.slots.length ≤ 4 ∧
    l.slots.Pairwise (fun a b => ¬ a.tag = 0 → ¬ (a.tag = b.tag ∧ a.kind = b.kind)) ∧
    (l.slots.filter (·.inHand)).length ≤ (if (l.work.map Work.keepsSlot) = some true then 1 else 0) ∧
    (l.slots.filter Slot.isBegun).length ≤
      (match l.sending with
        | some (.reply _ _ _ _) => 1
        | some (.notice _ _ _) => 0
        | none => 0)

/-! ## Job queue and plane table (R6, R8, R14, R38, R39) -/

/-- Whether a job names a plane as destination or source (R8). -/
def Job.names (j : Job) (h : Nat) : Bool := j.body.planes.contains h

/-- Whether a FLUSH or an ENGINE reset is waiting for the head to stop. -/
def Work.emptiesQueue : Work → Bool
  | .fill _ _ => false
  | .cancel _ => false
  | .flush _ _ _ => true
  | .query _ => false
  | .resetReply _ => false
  | .resetDue _ => false
  | .engineStopping => true
  | .fullWaiting => false

/-- The laws of the job queue: at most 32 jobs; no job but the head in a state other than QUEUED, and the head
examined; only a LOAD awaits data; numbers from 1 to 65535, pairwise distinct; and nothing behind a head that a FLUSH
or an ENGINE reset is stopping (R38, R39, R40, R44, R54, R57). -/
def QueueLaw (s : State) : Prop :=
  s.jobs.length ≤ 32 ∧ (∀ j ∈ s.jobs.tail, j.state = .queued) ∧ (∀ j ∈ s.jobs.head?, ¬ j.state = .queued) ∧
    (∀ j ∈ s.jobs, j.state = .awaitingData → j.isLoad = true) ∧
    s.jobs.Pairwise (fun i j => ¬ i.number = j.number) ∧
    (∀ j ∈ s.jobs, 1 ≤ j.number ∧ j.number ≤ 65535) ∧ 1 ≤ s.jobCounter ∧ s.jobCounter ≤ 65535 ∧
    ((s.link.work.map Work.emptiesQueue) = some true → s.jobs.tail = [])

/-- The laws of the plane table: a FREE record has the values of R6; every ref count is the number of jobs in the
queue that name the plane (R8); a plane whose release is due is RETIRING with no job that names it (R14); and the
plane that a CONFIGURE_PANEL in hand has checked is still LIVE (R107). -/
def PlaneLaw (s : State) : Prop :=
  (∀ h, 1 ≤ h → h ≤ 24 →
    ((s.plane h).state = .free → s.plane h = freePlaneRecord) ∧
      (s.plane h).refCount = (s.jobs.filter (fun j => j.names h)).length ∧
      ((s.plane h).releaseDue = true → (s.plane h).state = .retiring ∧ (s.plane h).refCount = 0)) ∧
    ∀ q, s.link.work = some (.query q) → (s.plane q.handle).state = .live

/-- The jobs in the queue and the planes they name, together (R8, R39). -/
def EngineLaw (s : State) : Prop := QueueLaw s ∧ PlaneLaw s

/-- What the write hold is while a job runs at the head: over its destination plane and rectangle for a FILL, BLOCK or
LOAD, over its plane for a TEXT, and none for a SHOW, PACK or MARK (R46). -/
def Job.ownsHold (j : Job) (hold : Option Hold) : Prop :=
  match j.body with
  | .fill d => hold = some { plane := d.dest, rect := d.rect }
  | .block d _ _ _ => hold = some { plane := d.dest, rect := d.rect }
  | .load h r _ _ _ => hold = some { plane := h, rect := r }
  | .text h _ _ _ _ _ _ => ∃ r, hold = some { plane := h, rect := r }
  | .showPort _ _ => hold = none
  | .pack => hold = none
  | .mark _ => hold = none

/-- The laws of the running job: a job that has not become ACTIVE has rows done 0 (R37), and the write hold is held
exactly while a drawing job runs at the head, over what that job names (R46). -/
def RunningLaw (s : State) : Prop :=
  (∀ j ∈ s.jobs, j.running = false → j.rowsDone = 0) ∧ (s.jobs = [] → s.writeHold = none) ∧
    ∀ j ∈ s.jobs.head?, (j.running = true → j.ownsHold s.writeHold) ∧ (j.running = false → s.writeHold = none)

/-! ## Pixel store (R1, R2, R3) -/

/-- Whether a block lies in an extent. -/
def blockIn (e : Extent) (b : Nat) : Prop := e.first ≤ b ∧ b < e.first + e.count

/-- The form of the free extent list: block counts of at least 1, ordered, no two entries that touch (R2). -/
def FreeListForm (l : List Extent) : Prop :=
  (∀ e ∈ l, 1 ≤ e.count) ∧ l.Pairwise (fun d e => d.first + d.count < e.first)

/-- The store is accounted for: the extents of LIVE and RETIRING planes, of DEFINED fonts and the free extents are
pairwise disjoint and cover exactly blocks 0 to 1535 (R3); each extent has a block at least (R4). -/
def StoreAccounted (s : State) : Prop :=
  let held := s.allocated.map (·.extent) ++ s.freeList
  (∀ e ∈ held, 1 ≤ e.count) ∧ held.Pairwise (fun d e => ∀ b, ¬ (blockIn d b ∧ blockIn e b)) ∧
    ∀ b, (∃ e ∈ held, blockIn e b) ↔ b < 1536

/-- The laws of the store: the form of the free list, the accounting, and that a plane whose release is due still
holds its extent, being RETIRING (R2, R3, R14). -/
def StoreLaw (s : State) : Prop :=
  FreeListForm s.freeList ∧ StoreAccounted s ∧ ∀ h, (s.plane h).releaseDue = true → (s.plane h).state = .retiring

/-! ## Load unit (R72, R73) -/

/-- The staging buffer holds at most 4096 bytes, and none while there is no LOAD in the queue. -/
def StagingLaw (s : State) : Prop := s.staging.length ≤ 4096 ∧ (s.feeding = none → s.staging = [])

/-- The laws of the LOADs: total bytes is row bytes times h (R71), and bytes received never exceeds it; the staging fill
is the feeding LOAD's bytes received less row bytes times rows done, and a younger LOAD has received nothing (R72, R73); an
ACTIVE LOAD has a row staged, and an AWAITING_DATA one has not (R77, R78). The data timer runs exactly while the head is
AWAITING_DATA (R78). -/
def LoadLaw (s : State) : Prop :=
  (∀ j ∈ s.jobs, ∀ h r fn total got, j.body = .load h r fn total got →
    (let rowBytes := r.w * (s.plane h).depth / 8
    total = rowBytes * r.h ∧ got ≤ total ∧
      (s.feeding = some j → s.staging.length + rowBytes * j.rowsDone = got) ∧
      (¬ s.feeding = some j → got = 0 ∧ j.rowsDone = 0) ∧ (j.state = .active → rowBytes ≤ s.staging.length) ∧
      (j.state = .awaitingData → s.staging.length < rowBytes))) ∧
    s.dataTimer = (if s.jobs.head?.map (·.state) = some .awaitingData then .running 500 else .stopped)

/-! ## Fonts (R87, R88) -/

/-- The order of the glyph index: by font, and within a font by code, no two records alike (R88). -/
def GlyphsOrdered (l : List Glyph) : Prop := l.Pairwise (fun g e => g.before e = true)

/-- The laws of the fonts: at most 512 records in order; each record names a DEFINED font and its bitmap lies below
the font's used bytes; used bytes are within the capacity; each glyph count is the number of the font's records; an
UNDEFINED record has the values of R87. -/
def FontLaw (s : State) : Prop :=
  s.glyphs.length ≤ 512 ∧ GlyphsOrdered s.glyphs ∧
    (∀ g ∈ s.glyphs, g.font ≤ 3 ∧ (s.font g.font).state = .defined ∧
      g.offset + g.length ≤ (s.font g.font).usedBytes) ∧
    ∀ id, id ≤ 3 →
      ((s.font id).state = .undefined → s.font id = undefinedFont) ∧
        (s.font id).usedBytes ≤ 256 * (s.font id).extent.count ∧
        (s.font id).glyphCount = (s.glyphs.filter (fun g => g.font == id)).length

/-! ## Holds (R46) -/

/-- The law of the holds: the write hold overlaps no read hold of either port on the same plane (R46). -/
def HoldLaw (s : State) : Prop :=
  ∀ h p, s.writeHold = some h → (s.port p).boundPlane = h.plane →
    ∀ r ∈ (s.port p).readHolds, overlaps h.rect r = false

/-! ## Panel bus (R17, R124, R130) -/

/-- The laws of the panel bus: a port is STREAMING exactly while it owns the bus, so at most one is; the query owns
it only while a CONFIGURE_PANEL is in hand; no port is STREAMING while PACK holds the layout lock; and a free bus
has no claim left waiting (R124, R130). -/
def BusLaw (s : State) : Prop :=
  (∀ p, (s.port p).isStreaming = true ↔ s.bus.owner = .port p) ∧
    (s.bus.owner = .query → s.queryWaits = true) ∧
    (s.layoutLock = true → s.anyStreaming = false) ∧
    (s.bus.owner = .none → s.queryWaits = false ∧ s.claims .a = false ∧ s.claims .b = false)

/-! ## Panel ports (R104, R105, R113, R116, R126) -/

/-- The refresh set a port holds in STREAMING and SETTLING, with the mark a reset leaves (Table 8-1). -/
def PortState.refreshSet : PortState → Option (RefreshSet × Bool)
  | .unconfigured => none
  | .idle => none
  | .pending _ => none
  | .streaming set _ aborting => some (set, aborting)
  | .settling set abandoned => some (set, abandoned)
  | .fault _ => none

/-- Whether the busy timer runs in a state: SETTLING, and the busy wait of PENDING (Table 8-1). -/
def PortState.timesBusy : PortState → Bool
  | .unconfigured => false
  | .idle => false
  | .pending w => decide (w = .busy)
  | .streaming _ _ _ => false
  | .settling _ _ => true
  | .fault _ => false

/-- The laws of a panel port. UNCONFIGURED has the values of R104; otherwise the ghost count is at most the ghost
limit, and below it while a PARTIAL set is sent or settles (R126); the damage list has at most 8 rectangles inside
the window, pairwise apart, and none when the whole flag is set (R113); the set's rectangles lie inside the window
(R127); the hold-off timer runs in AUTO mode alone and not in FAULT (R116, R135); the busy timer runs exactly where
Table 8-1 says. -/
def PortLaw (r : PortRec) : Prop :=
  (r.state = .unconfigured → r = unconfiguredPort) ∧ r.ghostCount ≤ r.ghostLimit ∧ r.width % 8 = 0 ∧
    r.damage.length ≤ 8 ∧ (∀ t ∈ r.damage, insideArea t r.width r.height = true) ∧
    r.damage.Pairwise (fun t u => overlaps t u = false) ∧ (r.whole = true → r.damage = []) ∧
    (∀ set mark, r.state.refreshSet = some (set, mark) →
      (∀ t ∈ set.rects, insideArea t r.width r.height = true) ∧
        (set.waveform = .partialWave → mark = false → r.ghostCount < r.ghostLimit)) ∧
    (r.mode = .manual → r.holdOffTimer = .stopped) ∧ (∀ c, r.state = .fault c → r.holdOffTimer = .stopped) ∧
    (r.busyTimer.isRunning = r.state.timesBusy)

/-- Both ports keep their laws, and the width that a CONFIGURE_PANEL in hand asks for is a multiple of 8 (R106). -/
def PortsLaw (s : State) : Prop :=
  PortLaw s.portA ∧ PortLaw s.portB ∧ ∀ q, s.link.work = some (.query q) → q.width % 8 = 0

/-- Whether a window of a width, a height and an origin lies inside a plane of a depth (R105). -/
def Plane.windowFits (p : Plane) (width height depth ox oy : Nat) : Prop :=
  p.depth = depth ∧ ox + width ≤ p.width ∧ oy + height ≤ p.height

/-- The law of the bindings: a configured port's plane exists and is LIVE, holds the port among its bindings, and
holds its window; a plane holds no other port; a FREE record has the values of R6, and a plane whose release is due
is RETIRING; and the plane that a CONFIGURE_PANEL in hand has checked is still LIVE and still holds the window asked
for (R9, R105, R107). -/
def BindingLaw (s : State) : Prop :=
  (∀ p, ¬ (s.port p).state = .unconfigured →
    1 ≤ (s.port p).boundPlane ∧ (s.port p).boundPlane ≤ 24 ∧
      (s.plane (s.port p).boundPlane).state = .live ∧
      (s.plane (s.port p).boundPlane).bound p = true ∧
      (s.plane (s.port p).boundPlane).windowFits (s.port p).width (s.port p).height (s.port p).depth
        (s.port p).ox (s.port p).oy) ∧
    (∀ h p, (s.plane h).bound p = true → ¬ (s.port p).state = .unconfigured ∧ (s.port p).boundPlane = h) ∧
    (∀ h, (s.plane h).state = .free → s.plane h = freePlaneRecord) ∧
    (∀ h, (s.plane h).releaseDue = true → (s.plane h).state = .retiring) ∧
    (∀ p, (s.port p).state = .unconfigured → s.port p = unconfiguredPort) ∧
    (∀ q, s.link.work = some (.query q) →
      1 ≤ q.handle ∧ q.handle ≤ 24 ∧ (s.plane q.handle).state = .live ∧
        (s.plane q.handle).windowFits q.width q.height q.depth q.ox q.oy)

/-! ## The rectangle a job writes -/

/-- A plane's record as NEW_PLANE makes it: depth 1 or 2, a width that is a multiple of 8, and the stride that
goes with them (R1, R10). -/
def Plane.shaped (p : Plane) : Prop :=
  (p.depth = 1 ∨ p.depth = 2) ∧ p.width % 8 = 0 ∧ p.stride = p.width * p.depth / 8

end Sys2Proof.Machine
end

