-- ==== Sys2Proof/Certificates/Slice0/Obligations.lean ====
section
/-! DEFINITION. The statements for the provers. A command's statement gives the whole next state: what it writes
out of `{ s with … }` is unchanged, memory, the queue of waiting commands and every register included. An event ends
with the transmitter's choice of a next frame (`State.transmit`), which statements of its own describe. -/

open Sys2Proof Sys2Proof.Machine

/-! ## The step -/

/-- A step takes the command at the front of the queue and carries it out with the rest of the queue; with no command
waiting the part idles, which is the model's choice (log entry 10). -/
def Obligations.StepRunsTheFrontCommand : Prop :=
  (∀ (c : Instr) (s : State), step { s with pending := c :: s.pending } = exec c s) ∧
    ∀ s : State, s.pending = [] → step s = .next s

/-- Every command answers a next state in every state, and never touches the queue of waiting commands. This is the
model's choice, not the manual's word: a command whose event cannot occur changes nothing (log entry 1), nothing stops the
part (log entry 21), and the queue of commands is the model's own (log entries 3 and 10). -/
def Obligations.EveryCommandAnswersAndKeepsTheQueue : Prop :=
  ∀ (c : Instr) (s : State), ∃ t : State, exec c s = .next t ∧ t.pending = s.pending

/-! ## Resets and the link break -/

/-- POWER_ON_RESET brings every block to its power-on values, with the rate of Table 10-1, and the transmitter begins
STARTED (POWER) with number 0 (R163, Table 10-2). That the state reached stands after that start, with the notice
OUTSTANDING, its timer running and the transmitter no longer idle, is the model's reading (log entry 25). The content of
the store is unspecified: no byte holds a value. The levels of the two busy lines are the drivers' (log entry 6), and the
count of power-ons is the model's own (log entry 2). -/
def Obligations.PowerOnResetValues : Prop :=
  ∀ (rate1 rate0 : Bool) (s : State), ∃ t : State, exec (.powerOnReset rate1 rate0) s = .next t ∧
    t.mem = [] ∧ t.freeList = [⟨0, 1536⟩] ∧ (∀ h, t.plane h = freePlaneRecord) ∧ t.layoutLock = false ∧
    (∀ i, t.patternEntry i = zeroPattern) ∧ t.jobs = [] ∧ t.jobCounter = 1 ∧ t.writeHold = none ∧
    t.staging = [] ∧ t.dataTimer = .stopped ∧ (∀ id, t.font id = undefinedFont) ∧ t.glyphs = [] ∧
    (∀ p, t.port p = unconfiguredPort) ∧ t.bus = { owner := .none, last := none } ∧
    t.notices =
      { queue := [{ content := .started .power, state := .outstanding, seq := some 0, resendDue := false,
                    lostMark := false }],
        counter := 1, state := .sending, retries := 0, timer := .running 1000, lost := false } ∧
    t.link =
      { rate :=
          (match rate1, rate0 with
            | false, false => .bps57600
            | false, true => .bps115200
            | true, false => .bps460800
            | true, true => .bps1000000),
        receiver := .hunt, flags := ⟨false, false, false⟩, slots := [], cache := [],
        sending := some (.notice 0 (.started .power) false), work := none } ∧
    (∀ p, t.busyLine p = s.busyLine p) ∧ t.powerOns = s.powerOns + 1 ∧ t.pending = s.pending

/-- FULL_RESET. When the answered FULL reset is due, no port is STREAMING and no frame is on HTX, every block takes
its power-on values, but for the rate and the content of the store, and STARTED (RESET_FULL) is queued. Otherwise the
handler stays occupied, and a STREAMING port is marked to end with ABORT. While it is under way, the end of a notice
frame lets it take effect. That it waits for a frame under way is the model's reading (log entry 7). -/
def Obligations.FullResetTakesEffect : Prop :=
  ∀ s : State,
    (s.link.work = some (.resetDue .full) → s.anyStreaming = false → s.link.sending = none →
        exec .fullReset s = .next s.fullResetDone.transmit) ∧
      (s.link.work = some .fullWaiting → s.anyStreaming = false →
        ∀ n c l, s.link.sending = some (.notice n c l) → exec .noticeFrameSent s = .next s.fullResetDone.transmit) ∧
      (s.link.work = some (.resetDue .full) → (s.anyStreaming = true ∨ ¬ s.link.sending = none) →
        ∃ a b, exec .fullReset s =
            .next (State.transmit
              { s with portA := a, portB := b, link := { s.link with work := some .fullWaiting } }) ∧
          (s.portA.isStreaming = false → a = s.portA) ∧ (s.portB.isStreaming = false → b = s.portB) ∧
          (∀ set cmd m, s.portA.state = .streaming set cmd m →
            a = { s.portA with state := .streaming set cmd true }) ∧
          ∀ set cmd m, s.portB.state = .streaming set cmd m →
            b = { s.portB with state := .streaming set cmd true })

/-- ENGINE_RESET. When the answered ENGINE reset is due and no job has a row or an extent to finish, it takes effect at
once (`EngineResetDone`: the queue, the holds, the staging buffer, the data timer, the layout lock and the reply cache are
emptied or released, planes, ports and notices are as R23, R138 and R150 say, and the rest is kept). A job with a row or
an extent to finish is kept as the only one, and the handler stays occupied. That all its effects fall at one moment, and
that ports and notices stand untouched until then, is the model's reading (log entry 8), and so is that it sets the ref
counts itself (log entry 23). -/
def Obligations.EngineResetTakesEffect : Prop :=
  ∀ s : State, EngineLaw s → PortsLaw s → s.link.work = some (.resetDue .engine) →
    ((∀ j ∈ s.jobs.head?, j.running = false ∨ s.stopsAtOnce j = true) →
      ∃ t : State, exec .engineReset s = .next t.transmit ∧ EngineResetDone s t) ∧
      ∀ j, s.jobs.head? = some j → j.running = true → s.stopsAtOnce j = false →
        ∃ t : State, exec .engineReset s = .next t.transmit ∧ t.jobs = [j] ∧
          t.link = { s.link with work := some .engineStopping } ∧ t.notices = s.notices ∧
          t.portA = s.portA ∧ t.portB = s.portB ∧ t.bus = s.bus ∧ t.mem = s.mem ∧ t.freeList = s.freeList ∧
          t.writeHold = s.writeHold ∧ t.layoutLock = s.layoutLock ∧ t.dataTimer = s.dataTimer ∧
          t.patterns = s.patterns ∧ t.jobCounter = s.jobCounter ∧ t.fonts = s.fonts ∧ t.glyphs = s.glyphs ∧
          t.busyLineA = s.busyLineA ∧ t.busyLineB = s.busyLineB ∧ t.powerOns = s.powerOns ∧
          t.pending = s.pending ∧
          t.staging = (if j.isLoad = true ∨ s.feeding = none then s.staging else []) ∧
          ∀ h, 1 ≤ h → h ≤ 24 → t.plane h = { s.plane h with refCount := if j.names h then 1 else 0 }

/-- LINK_BREAK: receiver, slots, cache, link flags and transmitter are cleared, a RESET not yet answered in full is
dropped and other work goes on, and the notice unit renumbers behind a STARTED (BREAK) at its head (R148, R162).
Nothing else is reached: jobs, planes, fonts, patterns, ports and memory stand. A FULL reset under way that waits for the
frame now abandoned, and for no port, takes effect instead, by the model's reading (log entry 7). -/
def Obligations.LinkBreakClearsTheLinkAlone : Prop :=
  ∀ s : State,
    (let broken : State :=
      { s with
        link :=
          { rate := s.link.rate, receiver := .hunt, flags := ⟨false, false, false⟩, slots := [], cache := [],
            sending := none,
            work :=
              (match s.link.work with
                | some (.resetReply _) => none
                | w => w) }
        notices :=
          { queue :=
              { content := .started .linkBroken, state := .waiting, seq := none, resendDue := false,
                lostMark := false } ::
              (s.notices.queue.take 15).map
                (fun n => { n with state := .waiting, seq := none, resendDue := false }),
            counter := 0, state := .sending, retries := 0, timer := .stopped,
            lost := s.notices.lost || decide (16 ≤ s.notices.queue.length) } }
    (¬ (s.link.work = some .fullWaiting ∧ s.anyStreaming = false) →
        exec .linkBreak s = .next broken.transmit) ∧
      (s.link.work = some .fullWaiting ∧ s.anyStreaming = false →
        exec .linkBreak s = .next s.fullResetDone.transmit))

/-- RESET: the field ENGINE or FULL is answered OK, and the handler keeps the slot until the reply is sent; any other
value is answered BAD_VALUE and changes nothing (R161, Table 11-4). -/
def Obligations.ResetIsAnsweredBeforeItActs : Prop :=
  ∀ (s : State) (tag b : Byte) (before after : List Slot), NextRequest s kindReset tag [b] before after →
    (∀ k, (b = 1 ∧ k = ResetKind.engine) ∨ (b = 2 ∧ k = ResetKind.full) →
      exec .reset s =
        .next (State.transmit
          { s with
            link := { s.link with
              slots := before ++
                { tag := tag, kind := kindReset, inHand := true,
                  content := .answered { status := .ok, items := [] } false } :: after
              work := some (.resetReply k) } })) ∧
      (¬ b = 1 → ¬ b = 2 →
        exec .reset s = .next (s.replied kindReset tag { status := .badValue, items := [] } before after).transmit)

/-! ## The frame receiver and the intake slots -/

/-- BYTE_RECEIVED and FRAME_GAP_TIMEOUT: the table of R152, but for the judging of a complete frame. A character
with its stop bit at the break level, and 20 ms without a byte inside a frame, discard what there is, with FRAMING
set (R151, R152). -/
def Obligations.ReceiverFollowsItsTable : Prop :=
  ∀ (s : State) (b : Byte),
    (let goes := fun r : Receiver => State.transmit { s with link := { s.link with receiver := r } }
    let discarded : State :=
      { s with link := { s.link with receiver := .hunt, flags := { s.link.flags with framing := true } } }
    (s.link.receiver = .hunt →
        exec (.byteReceived b true) s = .next (if b = 0x5A then goes (.length none) else discarded.transmit)) ∧
      (s.link.receiver = .length none → exec (.byteReceived b true) s = .next (goes (.length (some b)))) ∧
      (∀ hi, s.link.receiver = .length (some hi) →
        exec (.byteReceived b true) s =
          .next (if 1024 < hi.toNat * 256 + b.toNat then discarded.transmit
            else goes (.header (hi.toNat * 256 + b.toNat) none))) ∧
      (∀ len, s.link.receiver = .header len none →
        exec (.byteReceived b true) s = .next (goes (.header len (some b)))) ∧
      (∀ len kind, s.link.receiver = .header len (some kind) →
        exec (.byteReceived b true) s =
          .next (goes (if len = 0 then .check kind b [] none else .body len kind b []))) ∧
      (∀ len kind tag got, s.link.receiver = .body len kind tag got →
        (got.length + 1 < len → exec (.byteReceived b true) s = .next (goes (.body len kind tag (got ++ [b])))) ∧
          (got.length + 1 = len →
            exec (.byteReceived b true) s = .next (goes (.check kind tag (got ++ [b]) none)))) ∧
      (∀ kind tag body, s.link.receiver = .check kind tag body none →
        exec (.byteReceived b true) s = .next (goes (.check kind tag body (some b)))) ∧
      exec (.byteReceived b false) s = .next discarded ∧
      (¬ s.link.receiver = .hunt → exec .frameGapTimeout s = .next discarded))

/-- FRAME_RECEIVED: the frame is judged by its CRC and its kind, and a request arrives at the intake slots by the
first case of R154 that applies (R153, R154, R155). -/
def Obligations.CompleteFrameIsJudged : Prop :=
  ∀ (s : State) (kind tag hi lo : Byte) (body : List Byte),
    s.link.receiver = .check kind tag body (some hi) →
    (let good := crc16 (itemU16 body.length ++ [kind, tag] ++ body) = hi ++ lo
    let request := 1 ≤ kind.toNat ∧ kind.toNat ≤ 63
    let back : Link := { s.link with receiver := .hunt }
    let answers := fun l : Link => exec (.frameReceived lo) s = .next (State.transmit { s with link := l })
    let repeated := ¬ tag = 0 ∧ ∃ sl ∈ s.link.slots, sl.tag = tag ∧ sl.kind = kind
    (¬ good → answers { back with flags := { s.link.flags with checkFail := true } }) ∧
      (good → ¬ request → answers { back with flags := { s.link.flags with framing := true } }) ∧
      (good → request → 4 ≤ s.link.slots.length →
        answers { back with flags := { s.link.flags with overrun := true } }) ∧
      (good → request → s.link.slots.length < 4 → repeated → answers back) ∧
      (good → request → s.link.slots.length < 4 → ¬ repeated → ¬ tag = 0 →
        ∀ older (r : Reply) newer, s.link.cache = older ++ { tag := tag, kind := kind, reply := r } :: newer →
          (∀ e ∈ older, ¬ (e.tag = tag ∧ e.kind = kind)) →
          answers { back with
            slots := s.link.slots ++
              [{ tag := tag, kind := kind, inHand := false, content := .answered r false }] }) ∧
      (good → request → s.link.slots.length < 4 → ¬ repeated →
        (tag = 0 ∨ ∀ e ∈ s.link.cache, ¬ (e.tag = tag ∧ e.kind = kind)) →
          answers { back with
            slots := s.link.slots ++
              [{ tag := tag, kind := kind, inHand := false, content := .held body }] }))

/-- Every frame is received: from HUNT, with the transmitter at rest, the bytes of a frame that carries a request, one
BYTE_RECEIVED each, bring exactly that request to the intake slots, whatever its kind, tag and body of up to 1024
bytes (Table 11-1, R152, R153). -/
def Obligations.EveryFrameIsReceivedWhole : Prop :=
  ∀ (s : State) (kind tag : Byte) (body : List Byte), s.link.receiver = .hunt → s.transmit = s →
    s.pending = [] → body.length ≤ 1024 → 1 ≤ kind.toNat → kind.toNat ≤ 63 →
    Sys2Proof.core.run (body.length + 7)
        { s with pending := (frameBytes kind tag body).map (fun b => Instr.byteReceived b true) } =
      .next (State.transmit { s with link := s.link.arrive tag kind body })

/-! ## The request handler and the transmitter -/

/-- PING echoes a body of up to 1022 bytes, and a longer one is BAD_LENGTH (R160). A request of an unassigned kind is
answered UNKNOWN_KIND, and one whose kind has a fixed body length, with a body of another length, BAD_LENGTH (R158, Table
11-2). None of them changes anything else. -/
def Obligations.PingIsEchoedAndBadRequestsRefused : Prop :=
  ∀ (s : State) (kind tag : Byte) (body : List Byte) (before after : List Slot),
    NextRequest s kind tag body before after →
    (let answers := fun (c : Instr) (st : Status) (items : List Byte) =>
      exec c s = .next (s.replied kind tag { status := st, items := items } before after).transmit
    (kind = 0x01 → (body.length ≤ 1022 → answers .ping .ok body) ∧ (1022 < body.length → answers .ping .badLength [])) ∧
      (¬ kind.toNat ∈ [0x01, 0x02, 0x03, 0x04, 0x08, 0x09, 0x0A, 0x0B, 0x0C, 0x0D, 0x10, 0x11, 0x12, 0x13, 0x14, 0x18,
          0x19, 0x1A, 0x1B, 0x20, 0x21, 0x22, 0x23] → answers .unknownKind .unknownKind []) ∧
      ∀ (c : Instr) (n : Nat),
        (c, kind.toNat, n) ∈ [(Instr.reset, 0x02, 1), (.ack, 0x03, 1), (.resync, 0x04, 0), (.newPlane, 0x08, 6),
          (.freePlane, 0x09, 1), (.planeInfo, 0x0A, 1), (.storeInfo, 0x0B, 0), (.setPattern, 0x0C, 17),
          (.getPattern, 0x0D, 1), (.cancel, 0x11, 2), (.flush, 0x12, 0), (.newFont, 0x18, 5), (.dropFont, 0x1A, 1),
          (.fontInfo, 0x1B, 1), (.configurePanel, 0x20, 17), (.releasePanel, 0x21, 1), (.clearFault, 0x22, 1),
          (.panelInfo, 0x23, 1)] →
        ¬ body.length = n → answers c .badLength [])

/-- An idle transmitter begins the reply of the earliest-arrived ANSWERED slot, and the link flags are filled in and
cleared in the same event. With no reply ready it begins the notice that the unit offers: the oldest with resend due,
else the oldest WAITING one while fewer than 4 are OUTSTANDING; and nothing when the unit is STALLED, when nothing waits
and no resend is due, or when 4 or more are OUTSTANDING and none of them is due. The notice begun carries the LOST flag if
it is set. A transmitter that is sending begins nothing (R141, R142, R143, R153, R159). -/
def Obligations.TransmitterChoosesTheNextFrame : Prop :=
  ∀ s : State,
    (¬ s.link.sending = none → s.transmit = s) ∧
    (∀ (tag kind : Byte) (hand : Bool) (r : Reply) (before after : List Slot), s.link.sending = none →
      s.link.slots = before ++ { tag := tag, kind := kind, inHand := hand, content := .answered r false } :: after →
      (∀ sl ∈ before, sl.isReady = false) →
      s.transmit =
        { s with
          link := { s.link with
            slots := before ++
              { tag := tag, kind := kind, inHand := hand, content := .answered r true } :: after
            flags := ⟨false, false, false⟩
            sending := some (.reply tag kind r s.link.flags) } }) ∧
    (s.link.sending = none → (∀ sl ∈ s.link.slots, sl.isReady = false) →
      (s.notices.state = .stalled → s.transmit = s) ∧
      (∀ out more, s.notices.queue = out ++ more → (∀ m ∈ out, m.state = .outstanding ∧ m.resendDue = false) →
        (∀ m ∈ more, m.state = .waiting) → (more = [] ∨ 4 ≤ out.length) → s.transmit = s) ∧
      ∀ (older newer : List Notice) (n : Notice), s.notices.state = .sending →
        s.notices.queue = older ++ n :: newer →
        (n.state = .outstanding → n.resendDue = true →
          (∀ m ∈ older, m.state = .outstanding → m.resendDue = false) →
          ∀ k, n.seq = some k →
          s.transmit =
            { s with
              notices := { s.notices with
                queue := older ++ { n with resendDue := false, lostMark := n.lostMark || s.notices.lost } :: newer
                lost := false }
              link := { s.link with sending := some (.notice k n.content (n.lostMark || s.notices.lost)) } }) ∧
        (n.state = .waiting → (∀ m ∈ older, m.state = .outstanding ∧ m.resendDue = false) →
          (∀ m ∈ newer, m.state = .waiting) → older.length < 4 →
          s.transmit =
            { s with
              notices := { s.notices with
                queue := older ++
                  { n with
                    state := .outstanding, seq := some (n.seq.getD s.notices.counter),
                    lostMark := n.lostMark || s.notices.lost } :: newer
                counter := if n.seq = none then s.notices.counter + 1 else s.notices.counter
                timer := if older = [] then .running 1000 else s.notices.timer
                lost := false }
              link := { s.link with
                sending := some (.notice (n.seq.getD s.notices.counter) n.content
                  (n.lostMark || s.notices.lost)) } }))

/-- REPLY_FRAME_SENT: the slot is FREE, the reply enters the cache as its newest entry unless its tag is 0, a RESET
answered by it is due, and the transmitter chooses again (R154, R156, R159, R161). NOTICE_FRAME_SENT: the transmitter
chooses again (R159). Which of the transmitter and a reset that is due goes first is the command's operand, which has no
effect elsewhere (the model's choice, log entry 5). A FULL reset under way that waits for this frame, and for no port,
takes effect first (the model's reading, log entry 7). -/
def Obligations.FrameSentFreesTheTransmitter : Prop :=
  ∀ s : State,
    (let waits := s.link.work = some .fullWaiting ∧ s.anyStreaming = false
    (∀ (tag kind : Byte) (hand : Bool) (r : Reply) (flags : LinkFlags) (before after : List Slot),
      s.link.sending = some (.reply tag kind r flags) →
      s.link.slots = before ++ { tag := tag, kind := kind, inHand := hand, content := .answered r true } :: after →
      (∀ sl ∈ before ++ after, sl.isBegun = false) →
      (let kept := s.link.cache.filter (fun e => decide (¬ (e.tag = tag ∧ e.kind = kind))) ++
        [{ tag := tag, kind := kind, reply := r }]
      let freed : State := { s with
        link := { s.link with
          slots := before ++ after
          cache := if tag = 0 then s.link.cache else kept.drop (kept.length - 8)
          sending := none } }
      ((hand = false ∨ ∀ k, ¬ s.link.work = some (.resetReply k)) → (∀ k, ¬ s.link.work = some (.resetDue k)) →
          ¬ waits → ∀ order, exec (.replyFrameSent order) s = .next freed.transmit) ∧
        (waits → ∀ order, exec (.replyFrameSent order) s = .next s.fullResetDone.transmit) ∧
        (∀ k, s.link.work = some (.resetDue k) →
          exec (.replyFrameSent .resetFirst) s = .next freed ∧
            exec (.replyFrameSent .transmitterFirst) s = .next freed.transmit) ∧
        ∀ k, hand = true → s.link.work = some (.resetReply k) →
          exec (.replyFrameSent .resetFirst) s =
              .next { freed with link := { freed.link with work := some (.resetDue k) } } ∧
            exec (.replyFrameSent .transmitterFirst) s =
              .next (State.transmit { freed with link := { freed.link with work := some (.resetDue k) } }))) ∧
      ∀ n c l, s.link.sending = some (.notice n c l) →
        (¬ waits → exec .noticeFrameSent s = .next (State.transmit { s with link := { s.link with sending := none } })) ∧
          (waits → exec .noticeFrameSent s = .next s.fullResetDone.transmit))

/-! ## The notice unit -/

/-- ACK of an OUTSTANDING number removes that notice and all before it, clears the retry count, ends STALLED and
restarts or stops the timer; any other number is answered BAD_ACK and changes nothing (R145). -/
def Obligations.AckRemovesThroughItsNumber : Prop :=
  ∀ (s : State) (tag b : Byte) (before after : List Slot), NextRequest s kindAck tag [b] before after →
    (∀ gone n left, s.notices.queue = gone ++ n :: left → n.state = .outstanding → n.seq = some b →
      (∀ m ∈ gone, ¬ (m.state = .outstanding ∧ m.seq = some b)) →
      (let remain := (left.filter (fun m => decide (m.state = .outstanding))).length
      exec .ack s =
        .next (State.replied
          { s with
            notices := { s.notices with
              queue := left, retries := 0, state := .sending,
              timer := if remain = 0 then .stopped else .running 1000 } }
          kindAck tag { status := .ok, items := itemU8 (gone.length + 1) ++ itemU8 remain }
          before after).transmit)) ∧
      ((∀ m ∈ s.notices.queue, ¬ (m.state = .outstanding ∧ m.seq = some b)) →
        (let out := s.notices.queue.filter (fun m => decide (m.state = .outstanding))
        exec .ack s =
          .next (s.replied kindAck tag
            { status := .badAck,
              items := [((out.head?.bind (·.seq)).getD 0)] ++ itemU8 out.length } before after).transmit))

/-- RESYNC returns every OUTSTANDING notice to WAITING with its number, makes the unit SENDING with its timer stopped,
and reports the number the next notice frame will carry and the number of notices (R147). -/
def Obligations.ResyncReturnsNoticesToWaiting : Prop :=
  ∀ (s : State) (tag : Byte) (before after : List Slot), NextRequest s kindResync tag [] before after →
    exec .resync s =
      .next (State.replied
        { s with
          notices := { s.notices with
            queue := s.notices.queue.map (fun n =>
              if n.state = .outstanding then { n with state := .waiting, resendDue := false } else n)
            retries := 0, state := .sending, timer := .stopped } }
        kindResync tag
        { status := .ok,
          items := [((s.notices.queue.head?.bind (·.seq)).getD s.notices.counter)] ++
            itemU8 s.notices.queue.length }
        before after).transmit

/-- RETRANSMISSION_TIMER_EXPIRY: with the retry count below 3 every OUTSTANDING notice has its resend due set, the
count rises and the timer starts again; otherwise the unit is STALLED with its timer stopped (R144, R146). -/
def Obligations.ExpiryResendsOrStalls : Prop :=
  ∀ s : State, s.notices.timer.isRunning = true →
    exec .retransmissionTimerExpiry s =
      .next (State.transmit
        { s with
          notices :=
            if s.notices.retries < 3 then
              { s.notices with
                queue := s.notices.queue.map (fun n =>
                  if n.state = .outstanding then { n with resendDue := true } else n)
                retries := s.notices.retries + 1
                timer := .running 1000 }
            else { s.notices with state := .stalled, timer := .stopped } })

/-! ## The store manager -/

/-- NEW_PLANE: the checks in their order, and the plane created when all pass: the FREE record of lowest handle, a
first-fit extent, and the fill begun (R10, R4, R6, R11). -/
def Obligations.NewPlaneIsCheckedAndCreated : Prop :=
  ∀ (s : State) (tag w1 w0 h1 h0 d f : Byte) (before after : List Slot),
    NextRequest s kindNewPlane tag [w1, w0, h1, h0, d, f] before after →
    (let w := w1.toNat * 256 + w0.toNat
    let h := h1.toNat * 256 + h0.toNat
    let blocks := (w * d.toNat * h + 2047) / 2048
    let inRange := 8 ≤ w ∧ w ≤ 2048 ∧ w % 8 = 0 ∧ 1 ≤ h ∧ h ≤ 2048 ∧
      ((d.toNat = 1 ∧ f.toNat ≤ 1) ∨ (d.toNat = 2 ∧ f.toNat ≤ 3))
    let refused := fun (st : Status) (items : List Byte) =>
      exec .newPlane s = .next (s.replied kindNewPlane tag { status := st, items := items } before after).transmit
    (¬ inRange → refused .badValue []) ∧
      (inRange → s.packActive = true → refused .packing []) ∧
      (inRange → s.packActive = false →
        ((∀ k, 1 ≤ k → k ≤ 24 → ¬ (s.plane k).state = .free) → refused .noHandle []) ∧
          ((∃ k, 1 ≤ k ∧ k ≤ 24 ∧ (s.plane k).state = .free) → (∀ e ∈ s.freeList, e.count < blocks) →
            refused .noSpace (itemU16 (freeTotal s.freeList) ++ itemU16 (largestFree s.freeList))) ∧
          ∀ k small e rest, 1 ≤ k → k ≤ 24 → (s.plane k).state = .free →
            (∀ i, 1 ≤ i → i < k → ¬ (s.plane i).state = .free) →
            s.freeList = small ++ e :: rest → (∀ x ∈ small, x.count < blocks) → blocks ≤ e.count →
            exec .newPlane s =
              .next (State.working
                { s with
                  freeList := small ++
                    (if e.count = blocks then rest else ⟨e.first + blocks, e.count - blocks⟩ :: rest)
                  planes := s.planes.setIfInBounds (k - 1)
                    { state := .live, width := w, height := h, depth := d.toNat, stride := w * d.toNat / 8,
                      extent := ⟨e.first, blocks⟩, refCount := 0, boundA := false, boundB := false,
                      releaseDue := false } }
                kindNewPlane tag [w1, w0, h1, h0, d, f] (.fill k (BitVec.ofNat 2 f.toNat))
                before after).transmit))

/-- NEW_PLANE_FILL_END: every pixel of the plane holds the fill value, no byte outside its rows changes, the OK reply
carries the handle and the extent, or is discarded where a link break has freed its slot, and a waiting PACK looks at the
layout lock again (R11, R17, R157). -/
def Obligations.FillEndWritesEveryPixel : Prop :=
  ∀ (s : State) (k : Nat) (v : Px),
    s.link.work = some (.fill k v) → (s.plane k).shaped → ((s.plane k).depth = 1 → v.toNat ≤ 1) →
    ∃ filled : State, filled = { s with mem := filled.mem } ∧
      (∀ x y, x < (s.plane k).width → y < (s.plane k).height → filled.pixel k x y = v) ∧
      (∀ a, a < 256 * (s.plane k).extent.first ∨
          256 * (s.plane k).extent.first + (s.plane k).stride * (s.plane k).height ≤ a →
        filled.readByte a = s.readByte a) ∧
      (∀ (tag : Byte) (body : List Byte) (before after : List Slot),
        s.link.slots =
          before ++ { tag := tag, kind := kindNewPlane, inHand := true, content := .held body } :: after →
        (∀ sl ∈ before ++ after, sl.inHand = false) →
        exec .newPlaneFillEnd s =
          .next (State.retryPack (filled.replied kindNewPlane tag
            { status := .ok,
              items := itemU8 k ++ itemU16 (s.plane k).extent.first ++ itemU16 (s.plane k).extent.count }
            before after)).transmit) ∧
      ((∀ sl ∈ s.link.slots, sl.inHand = false) →
        exec .newPlaneFillEnd s =
          .next (State.retryPack { filled with link := { s.link with work := none } }).transmit)

/-- FREE_PLANE: the checks in their order; a plane with no job that names it is released at once, its extent returned
and its record FREE, with no notice, and any other becomes RETIRING with a DEFERRED reply that carries its ref count
(R12, R13). -/
def Obligations.FreePlaneIsCheckedInOrder : Prop :=
  ∀ (s : State) (tag b : Byte) (before after : List Slot), NextRequest s kindFreePlane tag [b] before after →
    (let h := b.toNat
    let p := s.plane h
    let refused := fun st : Status =>
      exec .freePlane s = .next (s.replied kindFreePlane tag { status := st, items := [] } before after).transmit
    let free := p.state = .free
    let bound := p.boundA = true ∨ p.boundB = true
    ((h = 0 ∨ 24 < h) → free) ∧ (free → refused .noSuchPlane) ∧ (p.state = .retiring → refused .retiring) ∧
      (p.state = .live → bound → refused .inUse) ∧
      (p.state = .live → ¬ bound → s.packActive = true → refused .packing) ∧
      (p.state = .live → ¬ bound → s.packActive = false → p.refCount = 0 →
        exec .freePlane s =
          .next (State.replied
            { s with
              freeList := releaseExtent s.freeList p.extent
              planes := s.planes.setIfInBounds (h - 1) freePlaneRecord }
            kindFreePlane tag { status := .ok, items := [] } before after).transmit) ∧
      (p.state = .live → ¬ bound → s.packActive = false → 0 < p.refCount →
        exec .freePlane s =
          .next (State.replied
            { s with planes := s.planes.setIfInBounds (h - 1) { p with state := .retiring } }
            kindFreePlane tag { status := .deferred, items := itemU8 p.refCount } before after).transmit))

/-- The reports PLANE_INFO, STORE_INFO, FONT_INFO, GET_PATTERN and PANEL_INFO answer with the items of Table 11-6 as
the records stand, refuse what they name as out of range, and change nothing (R15, R16, R34, R95, R112). -/
def Obligations.ReportsGiveTheRecordAndChangeNothing : Prop :=
  ∀ (s : State) (tag b : Byte) (before after : List Slot),
    (let n := b.toNat
    let answers := fun (c : Instr) (kind : Byte) (st : Status) (items : List Byte) =>
      exec c s = .next (s.replied kind tag { status := st, items := items } before after).transmit
    (NextRequest s kindPlaneInfo tag [b] before after →
        (1 ≤ n → n ≤ 24 → answers .planeInfo kindPlaneInfo .ok
          ([b] ++ itemU8 (s.plane n).state.code ++ itemU16 (s.plane n).width ++ itemU16 (s.plane n).height ++
            itemU8 (s.plane n).depth ++ itemU16 (s.plane n).stride ++ itemU16 (s.plane n).extent.first ++
            itemU16 (s.plane n).extent.count ++ itemU8 (s.plane n).refCount ++
            itemU8 ((if (s.plane n).boundA = true then 1 else 0) + (if (s.plane n).boundB = true then 2 else 0)) ++
            itemU8 (if (s.plane n).releaseDue = true then 1 else 0))) ∧
          (n = 0 ∨ 24 < n → answers .planeInfo kindPlaneInfo .noSuchPlane [])) ∧
      (NextRequest s kindStoreInfo tag [] before after →
        answers .storeInfo kindStoreInfo .ok
          (itemU16 (s.freeList.map (·.count)).sum ++ itemU16 (largestFree s.freeList) ++
            itemU8 s.freeList.length ++
            itemU8 (allHandles.filter (fun h => decide ((s.plane h).state = .live))).length ++
            itemU8 (allHandles.filter (fun h => decide ((s.plane h).state = .retiring))).length ++
            itemU8 (allFontIds.filter (fun i => decide ((s.font i).state = .defined))).length ++
            itemU8 (if s.packActive = true then 1 else 0))) ∧
      (NextRequest s kindFontInfo tag [b] before after →
        (n ≤ 3 → answers .fontInfo kindFontInfo .ok
          ([b] ++ itemU8 (s.font n).state.code ++ itemU16 (s.font n).extent.first ++
            itemU8 (s.font n).extent.count ++ itemU16 (s.font n).usedBytes ++
            itemU16 (256 * (s.font n).extent.count - (s.font n).usedBytes) ++ itemU8 (s.font n).lineHeight ++
            itemU16 (s.font n).fallback ++ itemU16 (s.font n).glyphCount ++
            itemU8 (if (s.font n).state = .defined ∧
              ∃ g ∈ s.glyphs, g.font = n ∧ g.code = (s.font n).fallback then 1 else 0))) ∧
          (3 < n → answers .fontInfo kindFontInfo .badValue [])) ∧
      (NextRequest s kindGetPattern tag [b] before after →
        (n ≤ 15 → answers .getPattern kindGetPattern .ok ([b] ++ patternBytes (s.patternEntry n))) ∧
          (15 < n → answers .getPattern kindGetPattern .badValue [])) ∧
      (NextRequest s kindPanelInfo tag [b] before after →
        (∀ p, (n = 0 ∧ p = Port.a) ∨ (n = 1 ∧ p = Port.b) →
          (let r := s.port p
          answers .panelInfo kindPanelInfo .ok
            ([b] ++ itemU8 r.state.code ++ itemU16 r.width ++ itemU16 r.height ++ itemU8 r.depth ++
              itemU8 r.boundPlane ++ itemU16 r.ox ++ itemU16 r.oy ++ itemU8 r.mode.code ++ itemU16 r.holdOff ++
              itemU8 r.ghostLimit ++ itemU16 r.busyTimeout ++ itemU8 r.driverId ++ itemU8 r.ghostCount ++
              itemU8 ((if r.whole = true then 1 else 0) + (if r.force = true then 2 else 0) +
                (if r.again = true then 4 else 0) + (if r.holdOffTimer.isRunning = true then 8 else 0) +
                (if r.busyTimer.isRunning = true then 16 else 0)) ++
              itemU8 r.state.faultCode ++ itemU8 r.damage.length ++ r.damage.flatMap itemRect ++
              (match r.state.refreshSet with
                | none => itemU8 0 ++ itemU8 0
                | some m => itemU8 m.1.waveform.code ++ itemU8 m.1.rects.length ++ m.1.rects.flatMap itemRect)))) ∧
          (1 < n → answers .panelInfo kindPanelInfo .badValue [])))

/-- SET_PATTERN replaces an entry whole by the 64 values its 16 bytes carry, two bytes a row, the leftmost pixel in the
most significant bits, and leaves every other entry; an index above 15 is BAD_VALUE (R32, R33). -/
def Obligations.SetPatternReplacesTheEntry : Prop :=
  ∀ (s : State) (tag b : Byte) (bytes : List Byte) (before after : List Slot),
    NextRequest s kindSetPattern tag (b :: bytes) before after → bytes.length = 16 →
    (b.toNat ≤ 15 →
      ∃ t : State, exec .setPattern s =
          .next (t.replied kindSetPattern tag { status := .ok, items := [b] } before after).transmit ∧
        t = { s with patterns := t.patterns } ∧
        (∀ i, i ≤ 15 → ¬ i = b.toNat → t.patternEntry i = s.patternEntry i) ∧
        (∀ x y, patternPixel (t.patternEntry b.toNat) x y =
          pixelOfByte 2 (bytes.getD (2 * (y % 8) + x % 8 / 4) 0) (x % 4)) ∧
        patternBytes (t.patternEntry b.toNat) = bytes) ∧
      (15 < b.toNat →
        exec .setPattern s =
          .next (s.replied kindSetPattern tag { status := .badValue, items := [] } before after).transmit)

/-! ## Writing pixels -/

/-- A row drawn on a plane replaces exactly the pixels of its columns, each by its own function of the value the pixel
held, keeps every other pixel of the plane, those beside it in the same byte included, and no byte outside the row's
columns changes (R1, R29). -/
def Obligations.DrawnRowReplacesExactlyItsPixels : Prop :=
  ∀ (s : State) (h x w y : Nat) (g : Nat → Px → Px), (s.plane h).shaped → 1 ≤ w → x + w ≤ (s.plane h).width →
    (∀ i v, (s.plane h).depth = 1 → (g i v).toNat ≤ 1) →
    (s.drawRow h x w y g) = { s with mem := (s.drawRow h x w y g).mem } ∧
      (∀ i k, i < (s.plane h).width →
        (s.drawRow h x w y g).pixel h i k =
          if k = y ∧ x ≤ i ∧ i < x + w then g i (s.pixel h i k) else s.pixel h i k) ∧
      ∀ a, (let p := s.plane h
          let n := pixelsPerByte p.depth
          a < p.rowAddr y + x / n ∨ p.rowAddr y + (x + w + n - 1) / n ≤ a) →
        (s.drawRow h x w y g).readByte a = s.readByte a

/-! ## The job queue -/

/-- SUBMIT bodies: the bytes of each kind of job, with every field in its range, are read as that job, the signed
fields included, and pass the length and range checks; a TEXT passes the length check with 1 to 128 codes (Tables 3-3 and
11-7, R28, R41, R96). -/
def Obligations.SubmitBodiesAreReadAsSent : Prop :=
  ∀ (flag : Nat) (dest x y w h c pat src sx sy font ink label : Nat) (fn : BitVec 4) (pen base : Int)
    (codes : List Nat) (p : Port) (force : Bool),
    dest < 256 → x ≤ 2047 → y ≤ 2047 → 1 ≤ w → w ≤ 2048 → 1 ≤ h → h ≤ 2048 → c ≤ 3 → pat ≤ 15 → src < 256 →
    sx ≤ 2047 → sy ≤ 2047 → font ≤ 3 → ink ≤ 3 → label < 4294967296 → -32768 ≤ pen → pen ≤ 32767 →
    -32768 ≤ base → base ≤ 32767 → (∀ k ∈ codes, k < 65536) →
    (let draw := fun sk : SourceKind =>
      ({ dest := dest, rect := ⟨x, y, w, h⟩, source := sk, constant := BitVec.ofNat 2 c, pattern := pat, fn := fn }
        : DrawFields)
    let head := itemU8 dest ++ itemU16 x ++ itemU16 y ++ itemU16 w ++ itemU16 h
    let tail := itemU8 c ++ itemU8 pat ++ itemU8 fn.toNat
    let fits := fun bytes : List Byte => SubmitLengthFits bytes ∧ (flag ≤ 1 → SubmitInRange bytes)
    let reads := fun (bytes : List Byte) (job : JobBody) => jobFields bytes = some job ∧ fits bytes
    reads (itemU8 1 ++ itemU8 flag ++ head ++ itemU8 0 ++ tail) (.fill (draw .const)) ∧
      reads (itemU8 1 ++ itemU8 flag ++ head ++ itemU8 1 ++ tail) (.fill (draw .pattern)) ∧
      reads (itemU8 2 ++ itemU8 flag ++ head ++ itemU8 2 ++ tail ++ itemU8 src ++ itemU16 sx ++ itemU16 sy)
        (.block (draw .plane) src sx sy) ∧
      reads (itemU8 2 ++ itemU8 flag ++ head ++ itemU8 3 ++ tail ++ itemU8 src ++ itemU16 sx ++ itemU16 sy)
        (.block (draw .planeAndPattern) src sx sy) ∧
      reads (itemU8 3 ++ itemU8 flag ++ head ++ itemU8 fn.toNat) (.load dest ⟨x, y, w, h⟩ fn 0 0) ∧
      (let text := itemU8 4 ++ itemU8 flag ++ itemU8 dest ++ itemU8 font ++ itemS16 pen ++ itemS16 base ++
        itemU8 ink ++ itemU8 fn.toNat ++ codes.flatMap itemU16
      jobFields text = some (.text dest font pen base (BitVec.ofNat 2 ink) fn codes) ∧
        (1 ≤ codes.length → codes.length ≤ 128 → fits text)) ∧
      reads (itemU8 5 ++ itemU8 flag ++ itemU8 (portCode p) ++ itemU8 (if force = true then 1 else 0))
        (.showPort p force) ∧
      reads (itemU8 6 ++ itemU8 flag) .pack ∧ reads (itemU8 7 ++ itemU8 flag ++ itemU32 label) (.mark label))

/-- SUBMIT: what is refused, in the order of R41's checks: the length of Table 11-7 by kind, a kind, a report flag or a
field outside the ranges of Table 3-3, a full queue, a plane that does not exist, one that is RETIRING, and for a BLOCK the
depths and for every drawing job but a TEXT the rectangle (R41, R42). A refused SUBMIT changes nothing. -/
def Obligations.SubmitIsRefusedInOrder : Prop :=
  ∀ (s : State) (tag : Byte) (body : List Byte) (before after : List Slot),
    NextRequest s kindSubmit tag body before after →
    (let refused := fun (st : Status) (items : List Byte) =>
      exec .submit s = .next (s.replied kindSubmit tag { status := st, items := items } before after).transmit
    let kind := bodyU8 body 0
    let dest := bodyU8 body 2
    let src := bodyU8 body 15
    let handles := submitHandles body
    (¬ SubmitLengthFits body → refused .badLength []) ∧
      (SubmitLengthFits body → ¬ SubmitInRange body → refused .badValue []) ∧
      (SubmitLengthFits body → SubmitInRange body →
        (32 ≤ s.jobs.length → refused .queueFull (itemU8 s.jobs.length)) ∧
        (s.jobs.length < 32 →
          ((∃ h ∈ handles, h = 0 ∨ 24 < h ∨ (s.plane h).state = .free) → refused .noSuchPlane []) ∧
          ((∀ h ∈ handles, ¬ (s.plane h).state = .free) → (∃ h ∈ handles, (s.plane h).state = .retiring) →
            refused .retiring []) ∧
          ((∀ h ∈ handles, (s.plane h).state = .live) →
            (kind = 1 → ¬ s.inPlane (submitRect body) dest → refused .outOfBounds []) ∧
            (kind = 2 → ¬ (s.plane src).depth = (s.plane dest).depth → refused .depthMismatch []) ∧
            (kind = 2 → (s.plane src).depth = (s.plane dest).depth →
              ¬ (s.inPlane (submitRect body) dest ∧ s.inPlane (submitSourceRect body) src) →
              refused .outOfBounds []) ∧
            (kind = 3 → ¬ s.inPlane (submitRect body) dest → refused .outOfBounds []) ∧
            (kind = 3 → s.inPlane (submitRect body) dest → ¬ s.onBytes (submitRect body) dest →
              refused .badValue [])))))

/-- SUBMIT that passes every check: the job its bytes spell is appended, QUEUED, with the first number from the counter
upward, 1 after 65535, that no job in the queue holds; the counter goes past it; the ref count of each plane the job names
rises by 1, once for a BLOCK within one plane; a LOAD gets its total; and the reply carries the number. An accepted job
that finds the queue empty is examined in the same event (R8, R38, R43, R71). -/
def Obligations.AcceptedJobJoinsTheQueue : Prop :=
  ∀ (s : State) (tag : Byte) (body : List Byte) (before after : List Slot),
    NextRequest s kindSubmit tag body before after → QueueLaw s → SubmitLengthFits body → SubmitInRange body →
    s.jobs.length < 32 → (∀ h ∈ submitHandles body, (s.plane h).state = .live) → s.submitFits body →
    (let number := fun k : Nat => (s.jobCounter - 1 + k) % 65535 + 1
    ∃ (t : State) (k : Nat),
      exec .submit s =
        .next (State.replied (if s.jobs = [] then t.examine else t) kindSubmit tag
          { status := .ok, items := itemU16 (number k) } before after).transmit ∧
      t = { s with planes := t.planes, jobs := t.jobs, jobCounter := t.jobCounter } ∧
      t.jobs = s.jobs ++
        [{ number := number k, body := s.submittedJob body, report := decide (bodyU8 body 1 = 1), state := .queued,
           rowsDone := 0, fixed := nothingFixed }] ∧
      (∀ i, i < k → ∃ j ∈ s.jobs, j.number = number i) ∧ (∀ j ∈ s.jobs, ¬ j.number = number k) ∧
      t.jobCounter = number (k + 1) ∧
      ∀ h, 1 ≤ h → h ≤ 24 →
        t.plane h =
          { s.plane h with refCount := (s.plane h).refCount + if h ∈ submitHandles body then 1 else 0 })

/-- The examination of the head, at acceptance, after a departure or at the release of read holds: a FILL, BLOCK or
LOAD whose rectangle meets a read hold on its plane is HELD with nothing fixed, and otherwise takes the write hold
and is ACTIVE, with its pattern copied and, for a BLOCK, its source values as they stand; a LOAD with less than a row
staged is AWAITING_DATA with the data timer running; a MARK ends at once and the next job is examined (R30, R35, R44,
R46, R51, R62, R76). -/
def Obligations.HeadIsExamined : Prop :=
  ∀ (s : State) (j : Job) (rest : List Job), s.jobs = j :: rest → (j.state = .queued ∨ j.state = .held) →
    (let held : State := { s with jobs := { j with state := .held, fixed := nothingFixed } :: rest }
    let active := fun (h : Nat) (r : Rect) (st : JobState) (f : Fixed) =>
      ({ s with writeHold := some { plane := h, rect := r }, jobs := { j with state := st, fixed := f } :: rest }
        : State)
    let met := fun (h : Nat) (r : Rect) =>
      ∃ p, (s.port p).boundPlane = h ∧ ∃ u ∈ (s.port p).readHolds, overlaps r u = true
    (∀ d, j.body = .fill d →
      (met d.dest d.rect → s.examine = held) ∧
        (¬ met d.dest d.rect → s.examine = active d.dest d.rect .active
          { pattern := if d.source = .pattern ∨ d.source = .planeAndPattern then some (s.patternEntry d.pattern) else none,
            source := [], glyphs := [], missing := 0 })) ∧
      (∀ d src sx sy, j.body = .block d src sx sy →
        (met d.dest d.rect → s.examine = held) ∧
          (¬ met d.dest d.rect → ∃ rows : List (List Px),
            s.examine = active d.dest d.rect .active
              { pattern := if d.source = .pattern ∨ d.source = .planeAndPattern then some (s.patternEntry d.pattern) else none,
                source := rows, glyphs := [], missing := 0 } ∧
            ∀ i k, i < d.rect.w → k < d.rect.h →
              (rows.getD k []).getD i 0 = s.pixel src (sx + i) (sy + k))) ∧
      (∀ h r fn total got, j.body = .load h r fn total got →
        (met h r → s.examine = held) ∧
          (¬ met h r →
            s.examine =
              (if s.staging.length < r.w * (s.plane h).depth / 8 then
                { active h r .awaitingData nothingFixed with dataTimer := .running 500 }
              else active h r .active nothingFixed))) ∧
      ∀ label, j.body = .mark label → s.examine = (s.endHead j .ok).examine)

/-- The examination of a TEXT: with its font UNDEFINED it ends NO_FONT; otherwise its codes are resolved and placed,
and it ends at once when no box meets the plane, is HELD where the bounding box of the clipped boxes meets a read
hold, and takes the write hold over that box and is ACTIVE elsewhere (R44, R94, R97, R98, R100). -/
def Obligations.TextHeadIsResolved : Prop :=
  ∀ (s : State) (j : Job) (rest : List Job) (h font : Nat) (pen base : Int) (ink : Px) (fn : BitVec 4)
    (codes : List Nat), s.jobs = j :: rest → (j.state = .queued ∨ j.state = .held) →
    j.body = .text h font pen base ink fn codes →
    ((s.font font).state = .undefined →
      s.examine = (s.endHead { j with fixed := nothingFixed } .noFont).examine) ∧
      ((s.font font).state = .defined →
        ∃ (glyphs : List PlacedGlyph) (missing : Nat),
          glyphs.length + missing = codes.length ∧
          (let own := fun c : Nat => s.glyphs.find? (fun g => g.font == font && g.code == c)
          glyphs.map (·.glyph) = codes.filterMap (fun c => (own c).or (own (s.font font).fallback))) ∧
          (∀ g ∈ glyphs, g.top = base + g.glyph.yOffset) ∧
          (∀ g more, glyphs = g :: more → g.left = pen + g.glyph.xOffset) ∧
          (∀ (front : List PlacedGlyph) (f g : PlacedGlyph) (back : List PlacedGlyph), glyphs = front ++ f :: g :: back →
            g.left - g.glyph.xOffset = f.left - f.glyph.xOffset + f.glyph.advance) ∧
          (let fixed : Fixed := { pattern := none, source := [], glyphs := glyphs, missing := missing }
          match boundingAll (glyphs.filterMap (fun g => g.clip (s.plane h).width (s.plane h).height)) with
          | none =>
            s.examine =
              (s.endHead { j with fixed := fixed } (if missing = 0 then .ok else .okMissing)).examine
          | some r =>
            s.examine =
              if s.readHeld h r = true then
                { s with jobs := { j with state := .held, fixed := nothingFixed } :: rest }
              else
                { s with
                  writeHold := some { plane := h, rect := r }
                  jobs := { j with state := .active, fixed := fixed } :: rest }))

/-- A SHOW examined as head acts on its port by Table 8-3 and ends at once with the status R120 gives; a PACK that may
take the layout lock takes it, and with no extent to move ends at once, winding up, with 0 moves counted; one that may
not is ACTIVE without it. A job that has not become ACTIVE has rows done 0 (R37, in `RunningLaw`), and that is the premise
for a PACK (R17, R19, R20, R120). -/
def Obligations.ShowAndPackAreExamined : Prop :=
  ∀ (s : State) (j : Job) (rest : List Job), s.jobs = j :: rest → (j.state = .queued ∨ j.state = .held) →
    (∀ p force, j.body = .showPort p force →
      (let r := s.port p
      let ends := fun (t : State) (st : Status) => s.examine = (t.endHead j st).examine
      let merged : PortRec := { r with force := r.force || force }
      match r.state with
      | .unconfigured => ends s .notConfigured
      | .idle =>
        if r.damage = [] ∧ r.whole = false ∧ r.force = false ∧ force = false then ends s .okNoChange
        else ends ((s.setPort p merged).claimBus p) .ok
      | .pending _ => ends (s.setPort p merged) .ok
      | .streaming _ _ _ => ends (s.setPort p { merged with again := true }) .ok
      | .settling _ _ => ends (s.setPort p { merged with again := true }) .ok
      | .fault _ => ends s .portFault)) ∧
      (j.body = .pack → j.rowsDone = 0 →
        (let started : Job := { j with state := .active, rowsDone := 0 }
        let waiting : State := { s with jobs := started :: rest }
        let free := s.layoutLock = false ∧ s.anyStreaming = false ∧ s.fillInProgress = false
        (¬ free → s.examine = waiting) ∧
          (free → (∃ m, s.nextMove = some m) → s.examine = { waiting with layoutLock := true }) ∧
          (free → s.nextMove = none →
            s.examine =
              (State.endHead (State.windUpPack { waiting with layoutLock := true }) started .ok).examine)))

/-- What the end of a job does, in its order, whether the job was running or ends at its examination: the rows written are
damage to the ports bound to its plane, the write hold is released and the ports in the hold wait claim the bus, which the
arbiter grants (`State.holdFreed`), the ref counts fall, the RETIRING planes whose last job it was are released in ascending
order of handle, their extents returned and their notices handed over, the record leaves the queue, a LOAD's staged bytes
are discarded, and the JOB_END follows where one is due. Memory, patterns, fonts, the job number counter, the layout lock and
the link are untouched (R14, R48, R49, R50, R73, R119). The job that ends may carry more than the record at the head: what
its examination has just fixed. That all this is one step in this order is the model's reading (log entry 18). -/
def Obligations.JobEndDoesItsPartsInOrder : Prop :=
  ∀ (s : State) (head j : Job) (rest : List Job) (st : Status), s.jobs = head :: rest → PlaneLaw s →
    j.number = head.number → j.body = head.body → (∀ i ∈ rest, ¬ i.number = j.number) →
    (let t := s.endHead j st
    let due := fun h : Nat =>
      decide ((s.plane h).state = .retiring) && decide ((s.plane h).refCount = 1) && j.names h &&
        !s.packActive
    let quiet := j.report = false ∧ ¬ j.body.kind = .mark ∧ (st = .ok ∨ st = .okNoChange ∨ st = .okMissing)
    let released := (allHandles.filter due).foldl (fun u h => u.push (.planeReleased h)) s.notices
    t.jobs = rest ∧ t.writeHold = none ∧ t.dataTimer = .stopped ∧
      t.notices =
        (if quiet then released
        else released.push (.jobEnd j.number j.body.kind st j.rowsDone
          (if j.body.kind = .text then j.fixed.missing else 0)
          (match j.body with
            | .mark label => label
            | _ => 0))) ∧
      (∀ h, 1 ≤ h → h ≤ 24 →
        t.plane h =
          (if due h = true then freePlaneRecord
          else { s.plane h with
            refCount := (s.plane h).refCount - (if j.names h = true then 1 else 0)
            releaseDue := (s.plane h).releaseDue || (decide ((s.plane h).state = .retiring) &&
              decide ((s.plane h).refCount = 1) && j.names h) })) ∧
      t.freeList = (allHandles.filter due).foldl (fun l h => releaseExtent l (s.plane h).extent) s.freeList ∧
      t.staging = (if j.isLoad = true then [] else s.staging) ∧
      (let u := s.holdFreed j.rowsDone
      t.bus = u.bus ∧ ∀ p, t.port p = u.port p) ∧
      ((∀ p, ¬ (s.port p).state = .pending .hold) → BusLaw s →
        t.bus = s.bus ∧ ∀ p, t.port p = s.damagedPort j.rowsDone p) ∧
      t.mem = s.mem ∧ t.patterns = s.patterns ∧ t.fonts = s.fonts ∧ t.glyphs = s.glyphs ∧
      t.jobCounter = s.jobCounter ∧ t.layoutLock = s.layoutLock ∧ t.link = s.link ∧
      t.busyLineA = s.busyLineA ∧ t.busyLineB = s.busyLineB ∧ t.powerOns = s.powerOns ∧ t.pending = s.pending)

/-- What a departure does: the ref count of each plane falls by 1 for each departing job that names it; a RETIRING plane
that this brings to 0 is released, in ascending order of handle, its extent returned and its PLANE_RELEASED handed over, or
has its release due set while a PACK is active, and neither where an ENGINE reset removes the jobs; the records leave the
queue; the staged bytes go with the feeding LOAD; and nothing else changes (R8, R14, R49, R54, R57, R73). -/
def Obligations.DepartureLowersTheRefCounts : Prop :=
  ∀ (s : State) (gone kept : List Job) (byReset : Bool),
    (let t := s.depart gone kept byReset
    let named := fun h : Nat => (gone.filter (fun j => j.names h)).length
    let last := fun h : Nat =>
      decide ((s.plane h).state = .retiring) && decide (0 < named h) && decide ((s.plane h).refCount ≤ named h) &&
        !(s.plane h).releaseDue && !byReset
    let released := if s.packActive = true then [] else allHandles.filter last
    t =
      { s with
        planes := t.planes
        freeList := released.foldl (fun l h => releaseExtent l (s.plane h).extent) s.freeList
        notices := released.foldl (fun u h => u.push (.planeReleased h)) s.notices
        jobs := kept
        staging :=
          (match s.feeding with
            | none => s.staging
            | some f => if ∃ j ∈ gone, j.number = f.number then [] else s.staging) } ∧
      ∀ h, 1 ≤ h → h ≤ 24 →
        t.plane h =
          (if last h = true then
            (if s.packActive = true then { s.plane h with refCount := 0, releaseDue := true } else freePlaneRecord)
          else { s.plane h with refCount := (s.plane h).refCount - named h }))

/-- What the stop of a running job does. By CANCEL or FLUSH: a PACK first releases the planes whose release is due, in
ascending order of handle, each with its PLANE_RELEASED, and gives up the layout lock, and the ports in the lock wait claim
the bus; the damage is recorded and the write hold released as at a normal end; the job departs, with no JOB_END; and the
data timer stops. By an ENGINE reset: the damage is recorded, the job departs with no release, and both holds and the timer
go, with no claim of a port, which is the model's reading (log entry 8). PACK winds up at its normal end as at a stop (R20,
R21, R23, R48, R49, R52, R54, R57). -/
def Obligations.StopDoesItsPartsInOrder : Prop :=
  ∀ (s : State) (j : Job) (rest : List Job), s.jobs = j :: rest →
    (let due := allHandles.filter (fun h => (s.plane h).releaseDue)
    let wound := s.windUpPack
    let freed := due.foldl (fun l h => releaseExtent l (s.plane h).extent) s.freeList
    let told := due.foldl (fun u h => u.push (.planeReleased h)) s.notices
    (∀ h, 1 ≤ h → h ≤ 24 → wound.plane h = if (s.plane h).releaseDue = true then freePlaneRecord else s.plane h) ∧
      (s.layoutLock = false → wound = { s with planes := wound.planes, freeList := freed, notices := told }) ∧
      (s.layoutLock = true →
        wound =
          State.arbitrate
            { s with
              planes := wound.planes, freeList := freed, notices := told, layoutLock := false
              portA := s.portA.claimsFrom .lock, portB := s.portB.claimsFrom .lock }) ∧
      s.stopHead j =
        { ((if j.body = .pack then wound else s).holdFreed j.rowsDone).depart [j] rest false with
          dataTimer := .stopped } ∧
      s.stopHeadForReset j =
        { State.depart { s with portA := s.damagedPort j.rowsDone .a, portB := s.damagedPort j.rowsDone .b }
            [j] rest true with
          writeHold := none, layoutLock := false, dataTimer := .stopped })

/-- What follows a release. The release of the write hold, or of the layout lock, makes every port in the wait for it claim
the bus, and the arbiter choose. A bus given back is free, and the arbiter chooses. At a release of read holds the job
engine examines its head again where the head is QUEUED or HELD; an ACTIVE PACK without the layout lock takes it when no
port is STREAMING and no fill is in progress, and ends at once when it has nothing to move; any other head goes on. The end
of a fill lets such a PACK look again, and no HELD head (R11, R17, R20, R45, R48, R119, R129, R130). -/
def Obligations.ReleasesAreActedOn : Prop :=
  ∀ s : State,
    (let free := s.layoutLock = false ∧ s.anyStreaming = false ∧ s.fillInProgress = false
    let locked : State := { s with layoutLock := true }
    (∀ w,
      s.wakePorts w = State.arbitrate { s with portA := s.portA.claimsFrom w, portB := s.portB.claimsFrom w }) ∧
      (s.releaseWriteHold = if s.writeHold = none then s else State.wakePorts { s with writeHold := none } .hold) ∧
      s.giveBack = State.arbitrate { s with bus := { s.bus with owner := .none } } ∧
      (s.jobs = [] → s.recheckHead = s ∧ s.retryPack = s) ∧
      ∀ j rest, s.jobs = j :: rest →
        ((j.state = .queued ∨ j.state = .held) → s.recheckHead = s.examine ∧ s.retryPack = s) ∧
          ((j.state = .active ∨ j.state = .awaitingData) → ¬ (j.body = .pack ∧ j.state = .active) →
            s.recheckHead = s ∧ s.retryPack = s) ∧
          (j.body = .pack → j.state = .active →
            s.recheckHead = s.retryPack ∧ (¬ free → s.retryPack = s) ∧
              (free → (∃ m, s.nextMove = some m) → s.retryPack = locked) ∧
              (free → s.nextMove = none → s.retryPack = (locked.windUpPack.endHead j .ok).examine)))

/-- CANCEL: a number that no job has is NO_SUCH_JOB; a QUEUED or HELD job is removed at once, the next head examined
when it was the head; a running job that has no boundary to reach is stopped at once; any other is stopped at its next
boundary, and the handler waits (R49, R52). -/
def Obligations.CancelRemovesTheNamedJob : Prop :=
  ∀ (s : State) (tag hi lo : Byte) (before after : List Slot), NextRequest s kindCancel tag [hi, lo] before after →
    QueueLaw s →
    (let n := hi.toNat * 256 + lo.toNat
    let done := fun t : State =>
      exec .cancel s = .next (t.replied kindCancel tag
        { status := .ok, items := itemU8 1 ++ [hi, lo] ++ [hi, lo] } before after).transmit
    ((∀ j ∈ s.jobs, ¬ j.number = n) →
        exec .cancel s =
          .next (s.replied kindCancel tag { status := .noSuchJob, items := [] } before after).transmit) ∧
      ∀ front j back, s.jobs = front ++ j :: back → j.number = n →
        ((j.state = .queued ∨ j.state = .held) →
          done (if front = [] then (s.depart [j] back false).examine else s.depart [j] (front ++ back) false)) ∧
          ((j.state = .active ∨ j.state = .awaitingData) →
            (s.stopsAtOnce j = true → done (s.stopHead j).examine) ∧
              (s.stopsAtOnce j = false →
                exec .cancel s =
                  .next (s.working kindCancel tag [hi, lo] (.cancel n) before after).transmit)))

/-- FLUSH: every job but a running head is removed as one departure; then the head, if one is left, is stopped at once
or at its next boundary, and no job is examined. The reply carries the count and the oldest and newest numbers there
were (R54). -/
def Obligations.FlushEmptiesTheQueue : Prop :=
  ∀ (s : State) (tag : Byte) (before after : List Slot), NextRequest s kindFlush tag [] before after →
    (let first := (s.jobs.head?.map (·.number)).getD 0
    let last := (s.jobs.getLast?.map (·.number)).getD 0
    let done := fun t : State =>
      exec .flush s = .next (t.replied kindFlush tag
        { status := .ok, items := itemU8 s.jobs.length ++ itemU16 first ++ itemU16 last } before after).transmit
    ((∀ j ∈ s.jobs.head?, j.running = false) → done (s.depart s.jobs [] false)) ∧
      ∀ j rest, s.jobs = j :: rest → j.running = true →
        (let left := s.depart rest [j] false
        (s.stopsAtOnce j = true → done (left.stopHead j)) ∧
          (s.stopsAtOnce j = false →
            exec .flush s =
              .next (left.working kindFlush tag [] (.flush s.jobs.length first last) before after).transmit)))

/-- QUEUE_INFO reports the queue and, when a number is given, that job's record as submitted, and changes nothing
(R55, R68, R84, Table 11-8). -/
def Obligations.QueueInfoReportsTheQueue : Prop :=
  ∀ (s : State) (tag : Byte) (body : List Byte) (before after : List Slot),
    NextRequest s kindQueueInfo tag body before after →
    (let answers := fun (st : Status) (items : List Byte) =>
      exec .queueInfo s =
        .next (s.replied kindQueueInfo tag { status := st, items := items } before after).transmit
    let head := match s.jobs with
      | [] => itemU16 0 ++ itemU8 0 ++ itemU8 0 ++ itemU16 0
      | j :: _ => itemU16 j.number ++ itemU8 j.body.kind.code ++ itemU8 j.state.code ++ itemU16 j.rowsDone
    let summary := itemU8 s.jobs.length ++ head ++ itemU16 s.jobCounter ++
      itemU16 ((s.feeding.map (·.number)).getD 0) ++ itemU16 s.staging.length
    (¬ body.length = 0 → ¬ body.length = 2 → answers .badLength []) ∧ (body = [] → answers .ok summary) ∧
      ∀ hi lo : Byte, body = [hi, lo] →
        (hi = 0 → lo = 0 → answers .ok summary) ∧
          (¬ hi.toNat * 256 + lo.toNat = 0 →
            ((∀ j ∈ s.jobs, ¬ j.number = hi.toNat * 256 + lo.toNat) → answers .noSuchJob []) ∧
              ∀ front j back, s.jobs = front ++ j :: back → j.number = hi.toNat * 256 + lo.toNat →
                (∀ i ∈ front, ¬ i.number = hi.toNat * 256 + lo.toNat) →
                answers .ok (summary ++ itemU16 j.number ++ itemU8 j.body.kind.code ++
                  itemU8 (if j.report = true then 1 else 0) ++ itemU8 j.state.code ++ itemU16 j.rowsDone ++
                  j.body.items)))

/-! ## The load unit -/

/-- DATA: a body of fewer than 3 bytes is BAD_LENGTH, with no item in its reply (the model's reading, log entry 13); the
three refusals in their order with what each reports; and the acceptance, which appends the bytes, raises bytes received and
wakes an AWAITING_DATA LOAD that has a row staged or starts its timer again (R72, R74, R75, R78). That a DATA resent after a
link break is refused by the same checks, WAIT included, is the model's reading (log entry 26). -/
def Obligations.DataIsStagedOrRefused : Prop :=
  (∀ (s : State) (tag : Byte) (body : List Byte) (before after : List Slot),
    NextRequest s kindData tag body before after → body.length < 3 →
    exec .data s = .next (s.replied kindData tag { status := .badLength, items := [] } before after).transmit) ∧
    ∀ (s : State) (tag hi lo d : Byte) (more : List Byte) (before after : List Slot),
      NextRequest s kindData tag (hi :: lo :: d :: more) before after → QueueLaw s →
      (let number := hi.toNat * 256 + lo.toNat
      let bytes := d :: more
      let refused := fun (st : Status) (items : List Byte) =>
        exec .data s =
          .next (s.replied kindData tag { status := st, items := [hi, lo] ++ items } before after).transmit
      ((∀ j ∈ s.jobs, j.isLoad = false) → refused .notExpected (itemU16 0)) ∧
        ∀ front j back h r fn total got, s.jobs = front ++ j :: back → j.body = .load h r fn total got →
          (∀ i ∈ front, i.isLoad = false) →
          (¬ number = j.number → refused .notExpected (itemU16 j.number)) ∧
          (number = j.number → total - got < bytes.length → refused .tooLong (itemU32 (total - got))) ∧
          (number = j.number → bytes.length ≤ total - got → 4096 - s.staging.length < bytes.length →
            refused .wait (itemU16 (4096 - s.staging.length))) ∧
          (number = j.number → bytes.length ≤ total - got → bytes.length ≤ 4096 - s.staging.length →
            (let enough := r.w * (s.plane h).depth / 8 ≤ s.staging.length + bytes.length
            let starving := front = [] ∧ j.state = .awaitingData
            exec .data s =
              .next (State.replied
                { s with
                  staging := s.staging ++ bytes
                  jobs := front ++
                    { j with
                      body := .load h r fn total (got + bytes.length)
                      state := if starving ∧ enough then .active else j.state } :: back
                  dataTimer :=
                    if starving then (if enough then .stopped else .running 500) else s.dataTimer }
                kindData tag
                { status := .ok,
                  items := [hi, lo] ++ itemU32 (total - got - bytes.length) ++
                    itemU16 (4096 - s.staging.length - bytes.length) }
                before after).transmit)))

/-! ## The rows of drawing jobs -/

/-- FILL_ROW_END and BLOCK_ROW_END before the last row and with no stop pending: the row is drawn with the job's source
values and function, rows done rises by 1, and nothing else changes. A FILL's source is its constant or its pattern
copy from the plane's origin; a BLOCK's is its source value at activation, ANDed with the pattern for
PLANE_AND_PATTERN; every operand is reduced to the depth (R24, R25, R27, R30, R32, R63, R64, R65). -/
def Obligations.FillAndBlockRowsAreDrawn : Prop :=
  ∀ (s : State) (j : Job) (rest : List Job), s.jobs = j :: rest → j.state = .active → s.stopPending = false →
    (let reduce := fun (depth : Nat) (v : Px) => if depth = 2 then v else v &&& 1
    let bit := fun (fn : BitVec 4) (v old : Px) (i : Nat) =>
      fn.getLsbD ((v.getLsbD i).toNat + 2 * (old.getLsbD i).toNat)
    let result := fun (depth : Nat) (fn : BitVec 4) (v old new : Px) =>
      new.getLsbD 0 = bit fn v old 0 ∧ new.getLsbD 1 = (decide (depth = 2) && bit fn v old 1)
    let pattern := fun (depth x y : Nat) =>
      match j.fixed.pattern with
      | none => (0 : Px)
      | some p => reduce depth (patternPixel p x y)
    let goesOn := fun (c : Instr) (d : DrawFields) (v : Nat → Px) =>
      ∃ g : Nat → Px → Px,
        exec c s =
          .next (State.transmit
            { s.drawRow d.dest d.rect.x d.rect.w (d.rect.y + j.rowsDone) g with
              jobs := { j with rowsDone := j.rowsDone + 1 } :: rest }) ∧
        ∀ i old, d.rect.x ≤ i → result (s.plane d.dest).depth d.fn (v i) old (g i old)
    (∀ d, j.body = .fill d → (d.source = .const ∨ d.source = .pattern) → ¬ j.rowsDone + 1 = d.rect.h →
      goesOn .fillRowEnd d (fun i =>
        if d.source = .const then reduce (s.plane d.dest).depth d.constant
        else pattern (s.plane d.dest).depth i (d.rect.y + j.rowsDone))) ∧
      ∀ d src sx sy, j.body = .block d src sx sy → (d.source = .plane ∨ d.source = .planeAndPattern) →
        ¬ j.rowsDone + 1 = d.rect.h →
        goesOn .blockRowEnd d (fun i =>
          (let v := (j.fixed.source.getD j.rowsDone []).getD (i - d.rect.x) 0
          if d.source = .plane then v
          else v &&& pattern (s.plane d.dest).depth i (d.rect.y + j.rowsDone))))

/-- LOAD_ROW_END before the last row and with no stop pending: the row is drawn from the bytes at the front of the
staging buffer, its bytes leave the buffer, rows done rises by 1, and the job goes on ACTIVE with a row staged, or
AWAITING_DATA with the data timer running (R77, R78). DATA_TIMEOUT ends the AWAITING_DATA LOAD with status DATA_TIMEOUT,
its staged bytes are discarded, and the next head is examined (R79). -/
def Obligations.LoadRowsAreDrawnOrDataTimesOut : Prop :=
  (∀ (s : State) (j : Job) (rest : List Job) (h : Nat) (r : Rect) (fn : BitVec 4) (total got : Nat),
      s.jobs = j :: rest → j.state = .active → j.body = .load h r fn total got → s.stopPending = false →
      ¬ j.rowsDone + 1 = r.h →
      (let depth := (s.plane h).depth
      let n := r.w * depth / 8
      let left := s.staging.drop n
      let drawn := s.drawRow h r.x r.w (r.y + j.rowsDone) (fun i old =>
        combine depth fn
          (pixelOfByte depth (s.staging.getD ((i - r.x) / pixelsPerByte depth) 0)
            ((i - r.x) % pixelsPerByte depth)) old)
      exec .loadRowEnd s =
        .next (State.transmit
          { drawn with
            staging := left
            jobs := { j with
              rowsDone := j.rowsDone + 1
              state := if left.length < n then .awaitingData else .active } :: rest
            dataTimer := if left.length < n then .running 500 else s.dataTimer }))) ∧
    ∀ (s : State) (j : Job) (rest : List Job), s.jobs = j :: rest → j.state = .awaitingData →
      s.dataTimer.isRunning = true → EngineLaw s →
      exec .dataTimeout s = .next (s.endHead j .dataTimeout).examine.transmit ∧
        (s.endHead j .dataTimeout).staging = [] ∧ (s.endHead j .dataTimeout).jobs = rest ∧
        (s.endHead j .dataTimeout).dataTimer = .stopped

/-- TEXT_ROW_END before the last row and with no stop pending: in the row of the write hold's rectangle the ink is combined
into a pixel once for each glyph with a 1-bit on it, in the order of the codes; a pixel no glyph covers keeps its value;
rows done rises by 1, and nothing else changes (R31, R99). -/
def Obligations.TextRowIsInked : Prop :=
  ∀ (s : State) (j : Job) (rest : List Job) (h font : Nat) (pen base : Int) (ink : Px) (fn : BitVec 4)
    (codes : List Nat) (hold : Hold), s.jobs = j :: rest → j.state = .active →
    j.body = .text h font pen base ink fn codes → s.writeHold = some hold → s.stopPending = false →
    ¬ j.rowsDone + 1 = hold.rect.h →
    (let y := hold.rect.y + j.rowsDone
    let depth := (s.plane h).depth
    let covers := fun (g : PlacedGlyph) (x : Nat) =>
      (let row := ((y : Int) - g.top).toNat
      let col := ((x : Int) - g.left).toNat
      decide (g.left ≤ (x : Int)) && decide ((x : Int) < g.left + g.glyph.width) && decide (g.top ≤ (y : Int)) &&
        decide ((y : Int) < g.top + g.glyph.height) &&
        (s.readByte (256 * (s.font g.glyph.font).extent.first + g.glyph.offset +
          row * ((g.glyph.width + 7) / 8) + col / 8)).getLsbD (7 - col % 8))
    ∃ value : Nat → Px → Px,
      exec .textRowEnd s =
        .next (State.transmit
          { s.drawRow h hold.rect.x hold.rect.w y value with
            jobs := { j with rowsDone := j.rowsDone + 1 } :: rest }) ∧
      ∀ x old,
        value x old =
          (j.fixed.glyphs.filter (fun g => covers g x)).foldl
            (fun v _ => combine depth fn (reduceTo depth ink) v) old)

/-- The last row of a FILL, BLOCK, LOAD or TEXT with no stop pending ends the job with status OK, or OK_MISSING for a
TEXT with codes missing, and the next head is examined; with a stop pending, at whatever row, the job stops instead:
for a CANCEL the next head is examined and the reply written, for a FLUSH the reply alone, and for an ENGINE reset the reset
takes effect, at that moment by the model's reading (log entry 8) (R52, R54, R57, R66, R69, R80, R82, R100, R101). -/
def Obligations.LastOrStoppedRowEndsTheJob : Prop :=
  ∀ (s : State) (j : Job) (rest : List Job) (c : Instr) (rows : Nat) (st : Status) (drawn : State),
    s.jobs = j :: rest → j.state = .active →
    ((∃ d, j.body = .fill d ∧ c = .fillRowEnd ∧ rows = d.rect.h ∧ st = .ok ∧
        drawn = s.fillRow j d) ∨
      (∃ d src sx sy, j.body = .block d src sx sy ∧ c = .blockRowEnd ∧ rows = d.rect.h ∧ st = .ok ∧
        drawn = s.blockRow j d) ∨
      (∃ h r fn total got, j.body = .load h r fn total got ∧ c = .loadRowEnd ∧ rows = r.h ∧ st = .ok ∧
        drawn = { s.loadRow j h r fn with staging := s.staging.drop (r.w * (s.plane h).depth / 8) }) ∨
      (∃ h font pen base ink fn codes hold, j.body = .text h font pen base ink fn codes ∧ c = .textRowEnd ∧
        s.writeHold = some hold ∧ rows = hold.rect.h ∧
        st = (if j.fixed.missing = 0 then .ok else .okMissing) ∧
        drawn = s.textRow j h hold.rect fn ink)) →
    (let counted : Job := { j with rowsDone := j.rowsDone + 1 }
    let t : State := { drawn with jobs := counted :: rest }
    (s.stopPending = false → j.rowsDone + 1 = rows → exec c s = .next (t.endHead counted st).examine.transmit) ∧
      (∀ n, s.link.work = some (.cancel n) →
        exec c s =
          .next ((t.stopHead counted).examine.answer
            { status := .ok, items := itemU8 1 ++ itemU16 n ++ itemU16 n }).transmit) ∧
      (∀ count first last, s.link.work = some (.flush count first last) →
        exec c s =
          .next ((t.stopHead counted).answer
            { status := .ok, items := itemU8 count ++ itemU16 first ++ itemU16 last }).transmit) ∧
      (s.link.work = some .engineStopping → EngineLaw s → PortsLaw s →
        ∃ u : State, exec c s = .next u.transmit ∧ EngineResetDone t u))

/-- EXTENT_MOVE: PACK moves the first extent, in order of first block, that does not stand at the end of the one before
it, every byte of it, as though all were read before any is written; its owner's record and the free list follow, and the
count of moves rises. With no stop pending and more to move nothing else changes, and with none PACK winds up and ends OK.
With a stop pending PACK stops at this boundary: for a CANCEL the next head is examined and the reply written, for a FLUSH
the reply alone, and for an ENGINE reset the reset takes effect (log entry 8) (R1, R19, R20, R21, R23, R57). -/
def Obligations.ExtentMoveCopiesTheExtentDown : Prop :=
  ∀ (s : State) (j : Job) (rest : List Job) (x : OwnedExtent) (t : Nat), s.jobs = j :: rest → j.body = .pack →
    j.state = .active → s.layoutLock = true → s.nextMove = some (x, t) → StoreLaw s →
    (let counted : Job := { j with rowsDone := j.rowsDone + 1 }
    let f := x.extent.first
    let n := x.extent.count
    ∃ moved : State,
      moved =
        { s with
          mem := moved.mem, freeList := moved.freeList, planes := moved.planes, fonts := moved.fonts
          jobs := counted :: rest } ∧
      t < f ∧
      (∀ a, moved.readByte a =
        if 256 * t ≤ a ∧ a < 256 * (t + n) then s.readByte (a + 256 * f - 256 * t) else s.readByte a) ∧
      (∀ h, moved.plane h =
        if x.owner = .plane h then { s.plane h with extent := ⟨t, n⟩ } else s.plane h) ∧
      (∀ i, moved.font i = if x.owner = .font i then { s.font i with extent := ⟨t, n⟩ } else s.font i) ∧
      (∀ b, (∃ e ∈ moved.freeList, blockIn e b) ↔
        (∃ e ∈ s.freeList, blockIn e b ∧ ¬ (t ≤ b ∧ b < t + n)) ∨ (t + n ≤ b ∧ b < f + n)) ∧
      (s.stopPending = false → (∃ m, moved.nextMove = some m) → exec .extentMove s = .next moved.transmit) ∧
      (s.stopPending = false → moved.nextMove = none →
        exec .extentMove s = .next (moved.windUpPack.endHead counted .ok).examine.transmit) ∧
      (∀ k, s.link.work = some (.cancel k) →
        exec .extentMove s =
          .next ((moved.stopHead counted).examine.answer
            { status := .ok, items := itemU8 1 ++ itemU16 k ++ itemU16 k }).transmit) ∧
      (∀ count first last, s.link.work = some (.flush count first last) →
        exec .extentMove s =
          .next ((moved.stopHead counted).answer
            { status := .ok, items := itemU8 count ++ itemU16 first ++ itemU16 last }).transmit) ∧
      (s.link.work = some .engineStopping → EngineLaw s → PortsLaw s →
        ∃ u : State, exec .extentMove s = .next u.transmit ∧ EngineResetDone moved u))

/-! ## Fonts -/

/-- NEW_FONT: the checks in their order, and the record defined with a first-fit extent when all pass (R89, R90). -/
def Obligations.NewFontIsCheckedInOrder : Prop :=
  ∀ (s : State) (tag i n lh c1 c0 : Byte) (before after : List Slot),
    NextRequest s kindNewFont tag [i, n, lh, c1, c0] before after →
    (let refused := fun (st : Status) (items : List Byte) =>
      exec .newFont s = .next (s.replied kindNewFont tag { status := st, items := items } before after).transmit
    let inRange := i.toNat ≤ 3 ∧ 1 ≤ n.toNat ∧ n.toNat ≤ 64 ∧ 1 ≤ lh.toNat
    (¬ inRange → refused .badValue []) ∧ (inRange → s.packActive = true → refused .packing []) ∧
      (inRange → s.packActive = false →
        ((s.font i.toNat).state = .defined → refused .fontExists []) ∧
          ((s.font i.toNat).state = .undefined →
            ((∀ e ∈ s.freeList, e.count < n.toNat) →
              refused .noSpace (itemU16 (freeTotal s.freeList) ++ itemU16 (largestFree s.freeList))) ∧
              ∀ small e rest, s.freeList = small ++ e :: rest → (∀ x ∈ small, x.count < n.toNat) →
                n.toNat ≤ e.count →
                exec .newFont s =
                  .next (State.replied
                    { s with
                      freeList := small ++
                        (if e.count = n.toNat then rest
                        else ⟨e.first + n.toNat, e.count - n.toNat⟩ :: rest)
                      fonts := s.fonts.setIfInBounds i.toNat
                        { state := .defined, extent := ⟨e.first, n.toNat⟩, usedBytes := 0,
                          lineHeight := lh.toNat, fallback := c1.toNat * 256 + c0.toNat, glyphCount := 0 } }
                    kindNewFont tag { status := .ok, items := [i] ++ itemU16 e.first ++ [n] }
                    before after).transmit)))

/-- GLYPH: a body without its 10 bytes of fixed fields is BAD_LENGTH; the other checks in their order; and an accepted
glyph appended at the font's used bytes, its record added or rewritten, used bytes raised and the glyph count raised for a
new code; no other byte and no other record changes (R88, R91, R92). -/
def Obligations.GlyphIsCheckedAndAppended : Prop :=
  (∀ (s : State) (tag : Byte) (body : List Byte) (before after : List Slot),
    NextRequest s kindGlyph tag body before after → body.length < 10 →
    exec .glyph s = .next (s.replied kindGlyph tag { status := .badLength, items := [] } before after).transmit) ∧
    ∀ (s : State) (tag i c1 c0 w h adv x1 x0 y1 y0 : Byte) (bitmap : List Byte) (before after : List Slot),
      NextRequest s kindGlyph tag ([i, c1, c0, w, h, adv, x1, x0, y1, y0] ++ bitmap) before after → FontLaw s →
      (let f := s.font i.toNat
      let code := c1.toNat * 256 + c0.toNat
      let signed := fun (a b : Byte) =>
        if a.toNat < 128 then ((a.toNat * 256 + b.toNat : Nat) : Int) else (a.toNat * 256 + b.toNat : Nat) - 65536
      let dx := signed x1 x0
      let dy := signed y1 y0
      let refused := fun (st : Status) (items : List Byte) =>
        exec .glyph s = .next (s.replied kindGlyph tag { status := st, items := items } before after).transmit
      let inRange := i.toNat ≤ 3 ∧ 1 ≤ w.toNat ∧ w.toNat ≤ 64 ∧ 1 ≤ h.toNat ∧ h.toNat ≤ 128 ∧ -64 ≤ dx ∧ dx ≤ 63 ∧
        -128 ≤ dy ∧ dy ≤ 127
      let fits := bitmap.length = (w.toNat + 7) / 8 * h.toNat
      let known := ∃ g ∈ s.glyphs, g.font = i.toNat ∧ g.code = code
      let room := 256 * f.extent.count - f.usedBytes
      let ready := inRange ∧ fits ∧ f.state = .defined ∧ s.packActive = false
      (¬ inRange → refused .badValue []) ∧ (inRange → ¬ fits → refused .badLength []) ∧
        (inRange → fits → f.state = .undefined → refused .noSuchFont []) ∧
        (inRange → fits → f.state = .defined → s.packActive = true → refused .packing []) ∧
        (ready → room < bitmap.length → refused .fontFull (itemU16 room)) ∧
        (ready → bitmap.length ≤ room → ¬ known → 512 ≤ s.glyphs.length →
          refused .glyphTableFull (itemU16 s.glyphs.length)) ∧
        (ready → bitmap.length ≤ room → (known ∨ s.glyphs.length < 512) →
          (let g : Glyph :=
            { font := i.toNat, code := code, width := w.toNat, height := h.toNat, advance := adv.toNat,
              xOffset := dx, yOffset := dy, offset := f.usedBytes, length := bitmap.length }
          ∃ t : State,
            exec .glyph s =
              .next (t.replied kindGlyph tag
                { status := .ok, items := [i, c1, c0] ++ itemU16 (room - bitmap.length) } before after).transmit ∧
            t = { s with mem := t.mem, fonts := t.fonts, glyphs := t.glyphs } ∧
            (∀ a, t.readByte a =
              if 256 * f.extent.first + f.usedBytes ≤ a ∧
                  a < 256 * f.extent.first + f.usedBytes + bitmap.length then
                bitmap.getD (a - (256 * f.extent.first + f.usedBytes)) 0
              else s.readByte a) ∧
            (∀ id, t.font id =
              if id = i.toNat then
                { f with
                  usedBytes := f.usedBytes + bitmap.length
                  glyphCount := f.glyphCount +
                    (if s.glyphs.any (fun e => e.font == i.toNat && e.code == code) = true then 0 else 1) }
              else s.font id) ∧
            GlyphsOrdered t.glyphs ∧
            ∀ r, r ∈ t.glyphs ↔ r = g ∨ (r ∈ s.glyphs ∧ ¬ (r.font = i.toNat ∧ r.code = code)))))

/-- DROP_FONT: the checks in their order, and the font dropped when all pass: its glyph records leave the index, its
extent is released, its record is UNDEFINED, and the reply carries the number of records removed (R93). -/
def Obligations.DropFontIsCheckedInOrder : Prop :=
  ∀ (s : State) (tag i : Byte) (before after : List Slot), NextRequest s kindDropFont tag [i] before after →
    (let id := i.toNat
    let refused := fun st : Status =>
      exec .dropFont s = .next (s.replied kindDropFont tag { status := st, items := [] } before after).transmit
    let inUse := ∃ j rest h pen base ink fn codes, s.jobs = j :: rest ∧ j.state = .active ∧
      j.body = .text h id pen base ink fn codes
    (3 < id → refused .badValue) ∧ (id ≤ 3 → (s.font id).state = .undefined → refused .noSuchFont) ∧
      (id ≤ 3 → (s.font id).state = .defined →
        (s.packActive = true → refused .packing) ∧ (s.packActive = false → inUse → refused .inUse) ∧
          (s.packActive = false → ¬ inUse →
            exec .dropFont s =
              .next (State.replied
                { s with
                  glyphs := s.glyphs.filter (fun g => decide (¬ g.font = id))
                  freeList := releaseExtent s.freeList (s.font id).extent
                  fonts := s.fonts.setIfInBounds id undefinedFont }
                kindDropFont tag
                { status := .ok,
                  items := [i] ++ itemU16 (s.glyphs.filter (fun g => decide (g.font = id))).length }
                before after).transmit)))

/-! ## Panel ports -/

/-- CONFIGURE_PANEL: the checks 1 to 5 in their order, and, when all pass, a claim on the panel bus for the driver query,
which is granted at once when the bus is free; the handler stays occupied and the port is untouched until the query ends
(R106, R107, Table 11-6). -/
def Obligations.ConfigurePanelIsCheckedInOrder : Prop :=
  ∀ (s : State) (tag b w1 w0 h1 h0 d k x1 x0 y1 y0 m t1 t0 g u1 u0 : Byte) (before after : List Slot),
    NextRequest s kindConfigurePanel tag [b, w1, w0, h1, h0, d, k, x1, x0, y1, y0, m, t1, t0, g, u1, u0]
      before after →
    (let body := [b, w1, w0, h1, h0, d, k, x1, x0, y1, y0, m, t1, t0, g, u1, u0]
    let word := fun hi lo : Byte => hi.toNat * 256 + lo.toNat
    let width := word w1 w0
    let height := word h1 h0
    let p := if b = 0 then Port.a else Port.b
    let q : PanelRequest :=
      { port := p, width := width, height := height, depth := d.toNat, handle := k.toNat, ox := word x1 x0,
        oy := word y1 y0, mode := if m = 0 then .manual else .auto, holdOff := word t1 t0, ghostLimit := g.toNat,
        busyTimeout := word u1 u0 }
    let inRange := b.toNat ≤ 1 ∧ 8 ≤ width ∧ width ≤ 2048 ∧ width % 8 = 0 ∧ 1 ≤ height ∧ height ≤ 2048 ∧
      (d.toNat = 1 ∨ d.toNat = 2) ∧ word x1 x0 ≤ 2047 ∧ word y1 y0 ≤ 2047 ∧ m.toNat ≤ 1 ∧
      (word t1 t0 = 0 ∨ 50 ≤ word t1 t0 ∧ word t1 t0 ≤ 5000) ∧ (g.toNat ≤ 64 ∨ g.toNat = 255) ∧
      (word u1 u0 = 0 ∨ 100 ≤ word u1 u0 ∧ word u1 u0 ≤ 10000)
    let pl := s.plane k.toNat
    let refused := fun st : Status =>
      exec .configurePanel s =
        .next (s.replied kindConfigurePanel tag { status := st, items := [] } before after).transmit
    let waiting := s.working kindConfigurePanel tag body (.query q) before after
    let settled := (s.port p).state = .unconfigured ∨ (s.port p).state = .idle ∨ ∃ c, (s.port p).state = .fault c
    (¬ inRange → refused .badValue) ∧
      (inRange → ¬ settled → refused .portBusy) ∧
      (inRange → settled →
        (pl.state = .free → refused .noSuchPlane) ∧ (pl.state = .retiring → refused .retiring) ∧
          (pl.state = .live → ¬ pl.depth = d.toNat → refused .depthMismatch) ∧
          (pl.state = .live → pl.depth = d.toNat →
            ¬ (word x1 x0 + width ≤ pl.width ∧ word y1 y0 + height ≤ pl.height) → refused .outOfBounds) ∧
          (pl.state = .live → pl.depth = d.toNat → word x1 x0 + width ≤ pl.width →
            word y1 y0 + height ≤ pl.height →
            (s.bus.owner = .none →
              exec .configurePanel s =
                .next (State.transmit { waiting with bus := { s.bus with owner := .query } })) ∧
              (¬ s.bus.owner = .none → exec .configurePanel s = .next waiting.transmit))))

/-- QUERY, the end of the driver query on the panel bus: with an ID from 1 to 254 the port's record takes the request's
values with the defaults in place, the ID, its whole flag and a ghost count at the limit, the bindings follow, and the
reply carries the values in force; with 0 or 255 the reply is NO_DRIVER and nothing else changes. A reply whose slot a link
break has freed is discarded. In every case the query then gives the bus back (R9, R107, R108, R157). -/
def Obligations.QueryConfiguresThePort : Prop :=
  ∀ (s : State) (q : PanelRequest) (id : Byte), s.bus.owner = .query → s.link.work = some (.query q) →
    (let holdOff := if q.holdOff = 0 then 200 else q.holdOff
    let ghost := if q.ghostLimit = 255 then 8 else q.ghostLimit
    let busy := if q.busyTimeout = 0 then 4000 else q.busyTimeout
    let old := (s.port q.port).boundPlane
    let record : PortRec :=
      { state := .idle, width := q.width, height := q.height, depth := q.depth, boundPlane := q.handle,
        ox := q.ox, oy := q.oy, mode := q.mode, holdOff := holdOff, ghostLimit := ghost, busyTimeout := busy,
        driverId := id.toNat, ghostCount := ghost, damage := [], whole := true, force := false, again := false,
        holdOffTimer := if q.mode = .auto then .running holdOff else .stopped, busyTimer := .stopped }
    let binding := fun (h : Nat) (p : Port) (now : Bool) =>
      if q.port = p then (if h = q.handle then true else if h = old then false else now) else now
    let ends := fun (t : State) (r : Reply) =>
      (∀ (tag : Byte) (body : List Byte) (before after : List Slot),
        s.link.slots =
          before ++ { tag := tag, kind := kindConfigurePanel, inHand := true, content := .held body } :: after →
        (∀ sl ∈ before ++ after, sl.inHand = false) →
        exec (.query id) s =
          .next (State.giveBack (t.replied kindConfigurePanel tag r before after)).transmit) ∧
        ((∀ sl ∈ s.link.slots, sl.inHand = false) →
          exec (.query id) s = .next (State.giveBack { t with link := { s.link with work := none } }).transmit)
    (1 ≤ id.toNat → id.toNat ≤ 254 →
      ∃ t : State,
        ends t
          { status := .ok,
            items := itemU8 (portCode q.port) ++ [id] ++ itemU16 holdOff ++ itemU8 ghost ++ itemU16 busy } ∧
        t = { s with planes := t.planes, portA := t.portA, portB := t.portB } ∧
        t.port q.port = record ∧ (∀ p, ¬ p = q.port → t.port p = s.port p) ∧
        ∀ h, 1 ≤ h → h ≤ 24 →
          t.plane h =
            { s.plane h with
              boundA := binding h .a (s.plane h).boundA
              boundB := binding h .b (s.plane h).boundB }) ∧
      (id.toNat = 0 ∨ id.toNat = 255 → ends s { status := .noDriver, items := [id] }))

/-- RELEASE_PANEL: refused in the order of R110, and an IDLE or FAULT port leaves its plane's bindings and takes the
UNCONFIGURED values; nothing else changes, the panel bus included (R104, R110). CLEAR_FAULT: refused in the order of R111,
and a port in FAULT becomes IDLE with everything else of its record kept, its hold-off timer started in AUTO mode when it
has damage and stopped otherwise; the reply carries the port and the cause that was cleared (R111). -/
def Obligations.PortIsReleasedOrItsFaultCleared : Prop :=
  (∀ (s : State) (tag b : Byte) (before after : List Slot), NextRequest s kindReleasePanel tag [b] before after →
      (let refused := fun st : Status =>
        exec .releasePanel s =
          .next (s.replied kindReleasePanel tag { status := st, items := [] } before after).transmit
      (1 < b.toNat → refused .badValue) ∧
        ∀ p, (b = 0 ∧ p = Port.a) ∨ (b = 1 ∧ p = Port.b) →
          (let r := s.port p
          ((r.state = .unconfigured) → refused .notConfigured) ∧
            ((∃ w, r.state = .pending w) → refused .portBusy) ∧
            ((∃ set cmd mark, r.state = .streaming set cmd mark) → refused .portBusy) ∧
            ((∃ set mark, r.state = .settling set mark) → refused .portBusy) ∧
            ((r.state = .idle ∨ ∃ c, r.state = .fault c) →
              ∃ t : State,
                exec .releasePanel s =
                  .next (t.replied kindReleasePanel tag { status := .ok, items := [] } before after).transmit ∧
                t = { s with planes := t.planes, portA := t.portA, portB := t.portB } ∧
                t.port p =
                  { state := .unconfigured, width := 0, height := 0, depth := 0, boundPlane := 0, ox := 0, oy := 0,
                    mode := .manual, holdOff := 0, ghostLimit := 0, busyTimeout := 0, driverId := 0, ghostCount := 0,
                    damage := [], whole := false, force := false, again := false, holdOffTimer := .stopped,
                    busyTimer := .stopped } ∧
                (∀ o, ¬ o = p → t.port o = s.port o) ∧
                ∀ h, 1 ≤ h → h ≤ 24 →
                  t.plane h =
                    { s.plane h with
                      boundA := if p = .a ∧ h = r.boundPlane then false else (s.plane h).boundA
                      boundB := if p = .b ∧ h = r.boundPlane then false else (s.plane h).boundB })))) ∧
    ∀ (s : State) (tag b : Byte) (before after : List Slot), NextRequest s kindClearFault tag [b] before after →
      (let answers := fun (t : State) (st : Status) (items : List Byte) =>
        exec .clearFault s =
          .next (t.replied kindClearFault tag { status := st, items := items } before after).transmit
      (1 < b.toNat → answers s .badValue []) ∧
        ∀ p, (b = 0 ∧ p = Port.a) ∨ (b = 1 ∧ p = Port.b) →
          (let r := s.port p
          ((∀ c, ¬ r.state = .fault c) → answers s .notInFault []) ∧
            ∀ c, r.state = .fault c →
              (let idle : PortRec :=
                { r with
                  state := .idle
                  holdOffTimer :=
                    if r.mode = .auto ∧ (¬ r.damage = [] ∨ r.whole = true) then .running r.holdOff else .stopped }
              answers (if p = .a then { s with portA := idle } else { s with portB := idle }) .ok
                [b, if c = .busyStuck then 1 else 2])))

/-! ## Damage -/

/-- The merging rule, part by part: a rectangle that is the whole window sets the whole flag; one that overlaps entries takes
in the overlapping entry of lowest index, by the bounding box of the two, and goes on; one that overlaps none is appended
while there is room, and otherwise takes in the entry that would grow least, the lowest index among equals, and goes on. A
list of at most 8 rectangles, pairwise apart and inside the window, is such a list again after it, or the whole window, and
every pixel damaged before and every pixel of the rectangle is damaged after. A rectangle of the bound plane is cut to the
window and merged in window coordinates; a change of the list or the flag starts the hold-off timer again in AUTO mode, and
not in FAULT; one outside the window changes nothing (R113, R114, R115, R116). -/
def Obligations.MergingCoversTheDamage : Prop :=
  (∀ (width height : Nat) (list : List Rect) (r : Rect),
    (let d := mergeDamage width height { list := list, whole := false } r
    let box := fun t u : Rect =>
      (⟨min t.x u.x, min t.y u.y, max (t.x + t.w) (u.x + u.w) - min t.x u.x,
        max (t.y + t.h) (u.y + u.h) - min t.y u.y⟩ : Rect)
    let grows := fun e : Rect => (box r e).w * (box r e).h - e.w * e.h
    let into := fun (left : List Rect) (e : Rect) => mergeDamage width height { list := left, whole := false } (box r e)
    mergeDamage width height { list := [], whole := true } r = { list := [], whole := true } ∧
      (r = ⟨0, 0, width, height⟩ → d = { list := [], whole := true }) ∧
      (¬ r = ⟨0, 0, width, height⟩ →
        (∀ front e back, list = front ++ e :: back → overlaps r e = true → (∀ f ∈ front, overlaps r f = false) →
          d = into (front ++ back) e) ∧
        ((∀ e ∈ list, overlaps r e = false) → list.length < 8 → d = { list := list ++ [r], whole := false }) ∧
        ∀ front e back, list = front ++ e :: back → (∀ f ∈ list, overlaps r f = false) → 8 ≤ list.length →
          (∀ f ∈ front, grows e < grows f) → (∀ f ∈ back, grows e ≤ grows f) → d = into (front ++ back) e) ∧
      (list.length ≤ 8 → (∀ e ∈ list, insideArea e width height = true) →
        list.Pairwise (fun e f => overlaps e f = false) → insideArea r width height = true →
        (let covers := fun (l : List Rect) (x y : Nat) =>
          ∃ e ∈ l, e.x ≤ x ∧ x < e.x + e.w ∧ e.y ≤ y ∧ y < e.y + e.h
        d.list.length ≤ 8 ∧ (∀ e ∈ d.list, insideArea e width height = true) ∧
          d.list.Pairwise (fun e f => overlaps e f = false) ∧ (d.whole = true → d.list = []) ∧
          (d.whole = false → ∀ x y, (covers list x y ∨ covers [r] x y) → covers d.list x y))))) ∧
    ∀ (u : PortRec) (t : Rect),
      (let x0 := max t.x u.ox
      let y0 := max t.y u.oy
      let d := mergeDamage u.width u.height { list := u.damage, whole := u.whole }
        ⟨x0 - u.ox, y0 - u.oy, min (t.x + t.w) (u.ox + u.width) - x0, min (t.y + t.h) (u.oy + u.height) - y0⟩
      let timed := u.mode = .auto ∧ ¬ u.state = .unconfigured ∧ (∀ c, ¬ u.state = .fault c) ∧
        ¬ (d.list = u.damage ∧ d.whole = u.whole)
      (overlaps t ⟨u.ox, u.oy, u.width, u.height⟩ = false → u.addPlaneDamage t = u) ∧
        (overlaps t ⟨u.ox, u.oy, u.width, u.height⟩ = true → timed →
          u.addPlaneDamage t = { u with damage := d.list, whole := d.whole, holdOffTimer := .running u.holdOff }) ∧
        (overlaps t ⟨u.ox, u.oy, u.width, u.height⟩ = true → ¬ timed →
          u.addPlaneDamage t = { u with damage := d.list, whole := d.whole }))

/-! ## Refresh -/

/-- The panel bus arbiter: a bus that is owned stays as it is; a free bus goes to a waiting driver query first, then to
the port other than the one last granted, port A before port B when none was; with no claim nothing changes. A grant to a
port brings its examination: the lock wait while PACK holds the layout lock, the busy wait with its timer started while the
busy line is high, the hold wait while the write hold overlaps its refresh set, and otherwise STREAMING with the set of
R126 and R127, the damage, the whole flag and the force flag cleared and the hold-off timer stopped; a port that does not
stream gives the bus back and the next claim is granted (R123, R126, R127, R128, R130). The set holds the damage of a job
that ended while the port waited on its write hold, as R70 and R123 say and R65 does not (the model's reading, log entry
27). -/
def Obligations.GrantExaminesThePort : Prop :=
  ∀ s : State,
    (¬ s.bus.owner = .none → s.arbitrate = s) ∧
      (s.bus.owner = .none → s.queryWaits = true → s.arbitrate = { s with bus := { s.bus with owner := .query } }) ∧
      (s.queryWaits = false → s.claims .a = false → s.claims .b = false → s.arbitrate = s) ∧
      ∀ p o : Port, ¬ o = p → s.bus.owner = .none → s.queryWaits = false → s.claims p = true →
        (s.claims o = false ∨ s.bus.last = some o ∨ (s.bus.last = none ∧ p = .a)) →
        (let r := s.port p
        let full := r.force = true ∨ r.whole = true ∨ r.ghostLimit = 0 ∨ r.ghostCount = r.ghostLimit
        let rects := if full then [⟨0, 0, r.width, r.height⟩]
          else r.damage.map (fun t => ⟨t.x / 8 * 8, t.y, (t.x + t.w + 7) / 8 * 8 - t.x / 8 * 8, t.h⟩)
        let blocked := ∃ h, s.writeHold = some h ∧ h.plane = r.boundPlane ∧
          ∃ t ∈ rects, overlaps h.rect ⟨r.ox + t.x, r.oy + t.y, t.w, t.h⟩ = true
        let passes := fun u : PortRec =>
          s.arbitrate = State.arbitrate { s.setPort p u with bus := { owner := .none, last := some p } }
        (s.layoutLock = true → passes { r with state := .pending .lock }) ∧
          (s.layoutLock = false → s.busyLine p = true →
            passes { r with state := .pending .busy, busyTimer := .running r.busyTimeout }) ∧
          (s.layoutLock = false → s.busyLine p = false → blocked → passes { r with state := .pending .hold }) ∧
          (s.layoutLock = false → s.busyLine p = false → ¬ blocked →
            s.arbitrate =
              { s.setPort p
                  { r with
                    state := .streaming { waveform := if full then .fullWave else .partialWave, rects := rects }
                      (match rects with
                        | [] => .update
                        | t :: rest => .window t rest) false
                    damage := [], whole := false, force := false, holdOffTimer := .stopped } with
                bus := { owner := .port p, last := some p } }))

/-- WINDOW and PIXELS: the STREAMING port on the bus goes on with the first row of the rectangle, the next row, the next
rectangle's WINDOW, or UPDATE after the last; a row carries the pixels of the bound plane as they stand when it is formed,
leftmost first, at the port's depth. After a reset the port goes on with ABORT. Nothing else changes (R131, R137, R138). -/
def Obligations.WindowAndPixelsFollowTheSet : Prop :=
  ∀ (s : State) (p : Port) (set : RefreshSet) (t : Rect) (rest : List Rect) (row : Nat) (old : List Byte),
    s.bus.owner = .port p →
    (let r := s.port p
    let goes := fun (c : Instr) (cmd : StreamCommand) (mark : Bool) =>
      exec c s = .next (s.setPort p { r with state := .streaming set cmd mark })
    let next := match rest with
      | [] => StreamCommand.update
      | u :: more => .window u more
    let sends := fun (c : Instr) (y : Nat) => ∃ bytes : List Byte,
      goes c (.pixels t y bytes rest) false ∧ bytes.length = t.w * r.depth / 8 ∧
        ((r.depth = 1 ∨ r.depth = 2) → (s.plane r.boundPlane).depth = r.depth → t.w % 8 = 0 →
          ∀ i, i < t.w →
            pixelOfByte r.depth (bytes.getD (i / pixelsPerByte r.depth) 0) (i % pixelsPerByte r.depth) =
              s.pixel r.boundPlane (r.ox + t.x + i) (r.oy + t.y + y))
    (r.state = .streaming set (.window t rest) false → sends .window 0) ∧
      (r.state = .streaming set (.pixels t row old rest) false →
        (row + 1 < t.h → sends .pixels (row + 1)) ∧ (t.h ≤ row + 1 → goes .pixels next false)) ∧
      (r.state = .streaming set (.window t rest) true → goes .window .abort true) ∧
      (r.state = .streaming set (.pixels t row old rest) true → goes .pixels .abort true))

/-- UPDATE and ABORT end STREAMING: after UPDATE the port is SETTLING with its set and its busy timer started, after ABORT
it is IDLE; then the head is looked at again and the bus is given back, in the order the command's operand gives (the
model's choice, log entry 4). That the head, which can only be a job accepted since the reset, is looked at again after an
ABORT too, and that an again flag set since the reset is kept in the IDLE port, is the model's reading (log entry 8): R138
says that read holds released by the reset cause no job examination. A FULL reset that waits, with no other port STREAMING and no frame on HTX, takes effect
instead; that it waits for the frame, and takes effect at this command, is the model's reading (log entry 7) (R17, R45, R128,
R132, R137, R138). -/
def Obligations.UpdateAndAbortEndStreaming : Prop :=
  ∀ (s : State) (p : Port) (set : RefreshSet) (mark : Bool), s.bus.owner = .port p →
    (let r := s.port p
    let update := r.state = .streaming set .update mark
    let abort := r.state = .streaming set .abort mark
    let settled := s.setPort p { r with state := .settling set mark, busyTimer := .running r.busyTimeout }
    let idle := s.setPort p { r with state := .idle }
    let waits := s.link.work = some .fullWaiting ∧ s.link.sending = none
    (¬ waits →
      (update →
        exec (.update .jobFirst) s = .next (settled.recheckHead.giveBack).transmit ∧
          exec (.update .portFirst) s = .next (settled.giveBack.recheckHead).transmit) ∧
        (abort →
          exec (.abort .jobFirst) s = .next (idle.recheckHead.giveBack).transmit ∧
            exec (.abort .portFirst) s = .next (idle.giveBack.recheckHead).transmit)) ∧
      (waits → (∀ o, ¬ o = p → (s.port o).isStreaming = false) →
        ∀ order, (update → exec (.update order) s = .next s.fullResetDone.transmit) ∧
          (abort → exec (.abort order) s = .next s.fullResetDone.transmit)))

/-- The edges of a busy line. A rise changes the level alone. A fall completes the refresh of a SETTLING port, with a
REFRESH_END, the ghost count raised by a PARTIAL refresh and cleared by a FULL one, and a new claim when the again flag and
damage or the force flag ask for it; ends an abandoned one without notice; makes a port in the busy wait claim the bus
again; and reaches no other port (R125, R132, R133, R138). That a fall commanded at a line already low changes nothing is the
model's choice (log entry 1). -/
def Obligations.BusyLineEdges : Prop :=
  ∀ (s : State) (p : Port),
    (let r := s.port p
    let level := fun (t : State) (v : Bool) =>
      if p = .a then { t with busyLineA := v } else { t with busyLineB := v }
    let low := level s false
    let claims := fun (t : State) (u : PortRec) => State.arbitrate (t.setPort p { u with state := .pending .bus })
    let answers := fun t : State => exec (.busyLineFall p) s = .next t.transmit
    exec (.busyLineRise p) s = .next (level s true) ∧
      (s.busyLine p = false → exec (.busyLineFall p) s = .next s) ∧
      (s.busyLine p = true →
        (∀ set, r.state = .settling set false →
          (let ghost := if set.waveform = .partialWave then r.ghostCount + 1 else 0
          let done : PortRec := { r with state := .idle, busyTimer := .stopped, ghostCount := ghost, again := false }
          let told : State :=
            { low with notices := low.notices.push (.refreshEnd p set.waveform set.rects.length ghost) }
          let more := r.again = true ∧ (¬ r.damage = [] ∨ r.whole = true ∨ r.force = true)
          (more → answers (claims told done)) ∧ (¬ more → answers (told.setPort p done)))) ∧
        (∀ set, r.state = .settling set true →
          (r.again = true → answers (claims low { r with busyTimer := .stopped, again := false })) ∧
            (r.again = false → answers (low.setPort p
              { r with
                state := .idle, busyTimer := .stopped
                holdOffTimer := if r.mode = .auto then .running r.holdOff else .stopped }))) ∧
        (r.state = .pending .busy → answers (claims low { r with busyTimer := .stopped })) ∧
        ((∀ set mark, ¬ r.state = .settling set mark) → ¬ r.state = .pending .busy → answers low)))

/-- The timers of a port. The busy timer's expiry sends a SETTLING port to FAULT with BUSY_TIMEOUT and its set merged back
into its damage, and a port in the busy wait to FAULT with BUSY_STUCK, each with its PANEL_FAULT and both timers stopped; an
abandoned SETTLING ends without notice, and that its again flag, where it takes the port on to PENDING, is cleared then is
the model's reading (log entry 28). The hold-off timer's expiry makes an IDLE port with damage claim the bus, sets the
again flag of a STREAMING or SETTLING port, and only stops the timer of an IDLE one without damage and of a PENDING one
(R117, R121, R125, R134, R138). -/
def Obligations.PortTimersExpire : Prop :=
  ∀ (s : State) (p : Port),
    (let r := s.port p
    let claims := fun u : PortRec => State.arbitrate (s.setPort p { u with state := .pending .bus })
    let faults := fun (u : PortRec) (c : FaultCause) =>
      State.setPort { s with notices := s.notices.push (.panelFault p c) } p
        { u with state := .fault c, again := false, holdOffTimer := .stopped, busyTimer := .stopped }
    let merged := fun (u : PortRec) (t : Rect) =>
      (let d := mergeDamage u.width u.height { list := u.damage, whole := u.whole } t
      { u with damage := d.list, whole := d.whole })
    let busy := fun t : State => exec (.busyTimerExpiry p) s = .next t.transmit
    let holdOff := fun t : State => exec (.holdOffTimerExpiry p) s = .next t.transmit
    (r.busyTimer.isRunning = true →
      (∀ set, r.state = .settling set false → busy (faults (set.rects.foldl merged r) .busyTimeout)) ∧
        (r.state = .pending .busy → busy (faults r .busyStuck)) ∧
        ∀ set, r.state = .settling set true →
          (r.again = true → busy (claims { r with busyTimer := .stopped, again := false })) ∧
            (r.again = false → busy (s.setPort p
              { r with
                state := .idle, busyTimer := .stopped
                holdOffTimer := if r.mode = .auto then .running r.holdOff else .stopped }))) ∧
      (r.holdOffTimer.isRunning = true →
        (let stopped : PortRec := { r with holdOffTimer := .stopped }
        (r.state = .idle → (¬ r.damage = [] ∨ r.whole = true) → holdOff (claims stopped)) ∧
          (r.state = .idle → r.damage = [] → r.whole = false → holdOff (s.setPort p stopped)) ∧
          ((∃ w, r.state = .pending w) → holdOff (s.setPort p stopped)) ∧
          (∀ set cmd mark, r.state = .streaming set cmd mark →
            holdOff (s.setPort p { stopped with again := true })) ∧
          ∀ set mark, r.state = .settling set mark → holdOff (s.setPort p { stopped with again := true }))))

/-! ## The laws of the part -/

/-- After power-on every law of the part holds. -/
def Obligations.ResetStateHoldsEveryLaw : Prop :=
  memoryWf State.reset.mem ∧ StagingLaw State.reset ∧ LoadLaw State.reset ∧ FontLaw State.reset ∧
    NoticeLaw State.reset.notices ∧ CacheLaw State.reset.link.cache ∧ SlotLaw State.reset.link ∧
    EngineLaw State.reset ∧ RunningLaw State.reset ∧ StoreLaw State.reset ∧
    HoldLaw State.reset ∧ BusLaw State.reset ∧ PortsLaw State.reset ∧ BindingLaw State.reset

/-- The content of the store keeps its form, the staging buffer its bound and its owner, and the fonts and the glyph index
their laws, at every step from every state that has them. Where the job queue has its laws too, the LOADs keep theirs: the
fill of the staging buffer is the feeding LOAD's bytes received less row bytes times rows done, bytes received never exceeds
total bytes, and the data timer runs exactly while a LOAD awaits data (R1, R71, R72, R73, R77, R78, R87, R88). -/
def Obligations.StoredDataKeepsItsLaws : Prop :=
  ∀ s t : State, step s = .next t →
    (memoryWf s.mem → memoryWf t.mem) ∧ (StagingLaw s → StagingLaw t) ∧ (FontLaw s → FontLaw t) ∧
      (EngineLaw s → StagingLaw s → LoadLaw s → LoadLaw t)

/-- The laws of the notice unit (the order of its queue, the window of 4, the consecutive numbers, the timer), of the
reply cache and of the intake slots hold after every step from every state that has them (R139, R142, R143, R144, R154,
R156, R157, R159). -/
def Obligations.LinkAndNoticesKeepTheirLaws : Prop :=
  ∀ s t : State, step s = .next t →
    (NoticeLaw s.notices → NoticeLaw t.notices) ∧ (CacheLaw s.link.cache → CacheLaw t.link.cache) ∧
      (SlotLaw s.link → SlotLaw t.link)

/-- The laws of the job queue and of the plane table's ref counts hold after every step from every state that has them; and
so do the laws of the running job, that a job has rows done 0 before it becomes ACTIVE and that the write hold is held
exactly while a drawing job runs, over its plane and its rectangle (R6, R8, R14, R37, R38, R39, R40, R44, R46). -/
def Obligations.JobEngineKeepsItsLaws : Prop :=
  ∀ s t : State, step s = .next t →
    (EngineLaw s → EngineLaw t) ∧ (EngineLaw s → RunningLaw s → RunningLaw t)

/-- At every step from every state that has these laws, the extents of the planes, of the fonts and of the free list stay
disjoint and go on covering the whole store, and the free list keeps its form (R2, R3). -/
def Obligations.StoreStaysAccounted : Prop := ∀ s t : State, step s = .next t → StoreLaw s → StoreLaw t

/-- The panel bus has one owner at most, no port streams while PACK holds the layout lock, no claim waits at a free bus,
and the write hold never meets a read hold, after every step from every state that has these laws (R17, R46, R124,
R130). -/
def Obligations.BusAndHoldsKeepTheirLaws : Prop :=
  ∀ s t : State, step s = .next t → (BusLaw s → BusLaw t) ∧ (HoldLaw s → HoldLaw t)

/-- The laws of the port records, and those that tie each configured port to its LIVE plane, hold after every step from
every state that has them (R9, R104, R105, R107, R113, R116, R126, R127). -/
def Obligations.PortsKeepTheirLaws : Prop :=
  ∀ s t : State, step s = .next t → (PortsLaw s → PortsLaw t) ∧ (BindingLaw s → BindingLaw t)
end

