-- ==== Sys2Proof/Laws/State.lean ====
section
/-! SUPPORT. What each named update of State leaves of each field, so that no later proof unfolds an update, and how
the named tables read after a write. -/

namespace Sys2Proof.Machine

/-! ## The named updates, field by field -/


@[simp] theorem State.writeBytes_mem (s : State) (a : Nat) (bs : List Byte) :
    (s.writeBytes a bs).mem = writeCells s.mem a bs := rfl
@[simp] theorem State.writeBytes_freeList (s : State) (a : Nat) (bs : List Byte) :
    (s.writeBytes a bs).freeList = s.freeList := rfl
@[simp] theorem State.writeBytes_planes (s : State) (a : Nat) (bs : List Byte) :
    (s.writeBytes a bs).planes = s.planes := rfl
@[simp] theorem State.writeBytes_layoutLock (s : State) (a : Nat) (bs : List Byte) :
    (s.writeBytes a bs).layoutLock = s.layoutLock := rfl
@[simp] theorem State.writeBytes_patterns (s : State) (a : Nat) (bs : List Byte) :
    (s.writeBytes a bs).patterns = s.patterns := rfl
@[simp] theorem State.writeBytes_jobs (s : State) (a : Nat) (bs : List Byte) :
    (s.writeBytes a bs).jobs = s.jobs := rfl
@[simp] theorem State.writeBytes_jobCounter (s : State) (a : Nat) (bs : List Byte) :
    (s.writeBytes a bs).jobCounter = s.jobCounter := rfl
@[simp] theorem State.writeBytes_writeHold (s : State) (a : Nat) (bs : List Byte) :
    (s.writeBytes a bs).writeHold = s.writeHold := rfl
@[simp] theorem State.writeBytes_staging (s : State) (a : Nat) (bs : List Byte) :
    (s.writeBytes a bs).staging = s.staging := rfl
@[simp] theorem State.writeBytes_dataTimer (s : State) (a : Nat) (bs : List Byte) :
    (s.writeBytes a bs).dataTimer = s.dataTimer := rfl
@[simp] theorem State.writeBytes_fonts (s : State) (a : Nat) (bs : List Byte) :
    (s.writeBytes a bs).fonts = s.fonts := rfl
@[simp] theorem State.writeBytes_glyphs (s : State) (a : Nat) (bs : List Byte) :
    (s.writeBytes a bs).glyphs = s.glyphs := rfl
@[simp] theorem State.writeBytes_portA (s : State) (a : Nat) (bs : List Byte) :
    (s.writeBytes a bs).portA = s.portA := rfl
@[simp] theorem State.writeBytes_portB (s : State) (a : Nat) (bs : List Byte) :
    (s.writeBytes a bs).portB = s.portB := rfl
@[simp] theorem State.writeBytes_bus (s : State) (a : Nat) (bs : List Byte) : (s.writeBytes a bs).bus = s.bus := rfl
@[simp] theorem State.writeBytes_notices (s : State) (a : Nat) (bs : List Byte) :
    (s.writeBytes a bs).notices = s.notices := rfl
@[simp] theorem State.writeBytes_link (s : State) (a : Nat) (bs : List Byte) :
    (s.writeBytes a bs).link = s.link := rfl
@[simp] theorem State.writeBytes_busyLineA (s : State) (a : Nat) (bs : List Byte) :
    (s.writeBytes a bs).busyLineA = s.busyLineA := rfl
@[simp] theorem State.writeBytes_busyLineB (s : State) (a : Nat) (bs : List Byte) :
    (s.writeBytes a bs).busyLineB = s.busyLineB := rfl
@[simp] theorem State.writeBytes_powerOns (s : State) (a : Nat) (bs : List Byte) :
    (s.writeBytes a bs).powerOns = s.powerOns := rfl
@[simp] theorem State.writeBytes_pending (s : State) (a : Nat) (bs : List Byte) :
    (s.writeBytes a bs).pending = s.pending := rfl

@[simp] theorem State.setPlane_mem (s : State) (h : Nat) (p : Plane) :
    (s.setPlane h p).mem = s.mem := by unfold State.setPlane; split <;> rfl
@[simp] theorem State.setPlane_freeList (s : State) (h : Nat) (p : Plane) :
    (s.setPlane h p).freeList = s.freeList := by unfold State.setPlane; split <;> rfl
@[simp] theorem State.setPlane_layoutLock (s : State) (h : Nat) (p : Plane) :
    (s.setPlane h p).layoutLock = s.layoutLock := by unfold State.setPlane; split <;> rfl
@[simp] theorem State.setPlane_patterns (s : State) (h : Nat) (p : Plane) :
    (s.setPlane h p).patterns = s.patterns := by unfold State.setPlane; split <;> rfl
@[simp] theorem State.setPlane_jobs (s : State) (h : Nat) (p : Plane) :
    (s.setPlane h p).jobs = s.jobs := by unfold State.setPlane; split <;> rfl
@[simp] theorem State.setPlane_jobCounter (s : State) (h : Nat) (p : Plane) :
    (s.setPlane h p).jobCounter = s.jobCounter := by unfold State.setPlane; split <;> rfl
@[simp] theorem State.setPlane_writeHold (s : State) (h : Nat) (p : Plane) :
    (s.setPlane h p).writeHold = s.writeHold := by unfold State.setPlane; split <;> rfl
@[simp] theorem State.setPlane_staging (s : State) (h : Nat) (p : Plane) :
    (s.setPlane h p).staging = s.staging := by unfold State.setPlane; split <;> rfl
@[simp] theorem State.setPlane_dataTimer (s : State) (h : Nat) (p : Plane) :
    (s.setPlane h p).dataTimer = s.dataTimer := by unfold State.setPlane; split <;> rfl
@[simp] theorem State.setPlane_fonts (s : State) (h : Nat) (p : Plane) :
    (s.setPlane h p).fonts = s.fonts := by unfold State.setPlane; split <;> rfl
@[simp] theorem State.setPlane_glyphs (s : State) (h : Nat) (p : Plane) :
    (s.setPlane h p).glyphs = s.glyphs := by unfold State.setPlane; split <;> rfl
@[simp] theorem State.setPlane_portA (s : State) (h : Nat) (p : Plane) :
    (s.setPlane h p).portA = s.portA := by unfold State.setPlane; split <;> rfl
@[simp] theorem State.setPlane_portB (s : State) (h : Nat) (p : Plane) :
    (s.setPlane h p).portB = s.portB := by unfold State.setPlane; split <;> rfl
@[simp] theorem State.setPlane_bus (s : State) (h : Nat) (p : Plane) :
    (s.setPlane h p).bus = s.bus := by unfold State.setPlane; split <;> rfl
@[simp] theorem State.setPlane_notices (s : State) (h : Nat) (p : Plane) :
    (s.setPlane h p).notices = s.notices := by unfold State.setPlane; split <;> rfl
@[simp] theorem State.setPlane_link (s : State) (h : Nat) (p : Plane) :
    (s.setPlane h p).link = s.link := by unfold State.setPlane; split <;> rfl
@[simp] theorem State.setPlane_busyLineA (s : State) (h : Nat) (p : Plane) :
    (s.setPlane h p).busyLineA = s.busyLineA := by unfold State.setPlane; split <;> rfl
@[simp] theorem State.setPlane_busyLineB (s : State) (h : Nat) (p : Plane) :
    (s.setPlane h p).busyLineB = s.busyLineB := by unfold State.setPlane; split <;> rfl
@[simp] theorem State.setPlane_powerOns (s : State) (h : Nat) (p : Plane) :
    (s.setPlane h p).powerOns = s.powerOns := by unfold State.setPlane; split <;> rfl
@[simp] theorem State.setPlane_pending (s : State) (h : Nat) (p : Plane) :
    (s.setPlane h p).pending = s.pending := by unfold State.setPlane; split <;> rfl

@[simp] theorem State.setFont_mem (s : State) (i : Nat) (f : Font) : (s.setFont i f).mem = s.mem := rfl
@[simp] theorem State.setFont_freeList (s : State) (i : Nat) (f : Font) : (s.setFont i f).freeList = s.freeList := rfl
@[simp] theorem State.setFont_planes (s : State) (i : Nat) (f : Font) : (s.setFont i f).planes = s.planes := rfl
@[simp] theorem State.setFont_layoutLock (s : State) (i : Nat) (f : Font) :
    (s.setFont i f).layoutLock = s.layoutLock := rfl
@[simp] theorem State.setFont_patterns (s : State) (i : Nat) (f : Font) : (s.setFont i f).patterns = s.patterns := rfl
@[simp] theorem State.setFont_jobs (s : State) (i : Nat) (f : Font) : (s.setFont i f).jobs = s.jobs := rfl
@[simp] theorem State.setFont_jobCounter (s : State) (i : Nat) (f : Font) :
    (s.setFont i f).jobCounter = s.jobCounter := rfl
@[simp] theorem State.setFont_writeHold (s : State) (i : Nat) (f : Font) :
    (s.setFont i f).writeHold = s.writeHold := rfl
@[simp] theorem State.setFont_staging (s : State) (i : Nat) (f : Font) : (s.setFont i f).staging = s.staging := rfl
@[simp] theorem State.setFont_dataTimer (s : State) (i : Nat) (f : Font) :
    (s.setFont i f).dataTimer = s.dataTimer := rfl
@[simp] theorem State.setFont_fonts (s : State) (i : Nat) (f : Font) :
    (s.setFont i f).fonts = s.fonts.setIfInBounds i f := rfl
@[simp] theorem State.setFont_glyphs (s : State) (i : Nat) (f : Font) : (s.setFont i f).glyphs = s.glyphs := rfl
@[simp] theorem State.setFont_portA (s : State) (i : Nat) (f : Font) : (s.setFont i f).portA = s.portA := rfl
@[simp] theorem State.setFont_portB (s : State) (i : Nat) (f : Font) : (s.setFont i f).portB = s.portB := rfl
@[simp] theorem State.setFont_bus (s : State) (i : Nat) (f : Font) : (s.setFont i f).bus = s.bus := rfl
@[simp] theorem State.setFont_notices (s : State) (i : Nat) (f : Font) : (s.setFont i f).notices = s.notices := rfl
@[simp] theorem State.setFont_link (s : State) (i : Nat) (f : Font) : (s.setFont i f).link = s.link := rfl
@[simp] theorem State.setFont_busyLineA (s : State) (i : Nat) (f : Font) :
    (s.setFont i f).busyLineA = s.busyLineA := rfl
@[simp] theorem State.setFont_busyLineB (s : State) (i : Nat) (f : Font) :
    (s.setFont i f).busyLineB = s.busyLineB := rfl
@[simp] theorem State.setFont_powerOns (s : State) (i : Nat) (f : Font) : (s.setFont i f).powerOns = s.powerOns := rfl
@[simp] theorem State.setFont_pending (s : State) (i : Nat) (f : Font) : (s.setFont i f).pending = s.pending := rfl

@[simp] theorem State.setHead_mem (s : State) (j : Job) : (s.setHead j).mem = s.mem := rfl
@[simp] theorem State.setHead_freeList (s : State) (j : Job) : (s.setHead j).freeList = s.freeList := rfl
@[simp] theorem State.setHead_planes (s : State) (j : Job) : (s.setHead j).planes = s.planes := rfl
@[simp] theorem State.setHead_layoutLock (s : State) (j : Job) : (s.setHead j).layoutLock = s.layoutLock := rfl
@[simp] theorem State.setHead_patterns (s : State) (j : Job) : (s.setHead j).patterns = s.patterns := rfl
@[simp] theorem State.setHead_jobs (s : State) (j : Job) : (s.setHead j).jobs = j :: s.jobs.tail := rfl
@[simp] theorem State.setHead_jobCounter (s : State) (j : Job) : (s.setHead j).jobCounter = s.jobCounter := rfl
@[simp] theorem State.setHead_writeHold (s : State) (j : Job) : (s.setHead j).writeHold = s.writeHold := rfl
@[simp] theorem State.setHead_staging (s : State) (j : Job) : (s.setHead j).staging = s.staging := rfl
@[simp] theorem State.setHead_dataTimer (s : State) (j : Job) : (s.setHead j).dataTimer = s.dataTimer := rfl
@[simp] theorem State.setHead_fonts (s : State) (j : Job) : (s.setHead j).fonts = s.fonts := rfl
@[simp] theorem State.setHead_glyphs (s : State) (j : Job) : (s.setHead j).glyphs = s.glyphs := rfl
@[simp] theorem State.setHead_portA (s : State) (j : Job) : (s.setHead j).portA = s.portA := rfl
@[simp] theorem State.setHead_portB (s : State) (j : Job) : (s.setHead j).portB = s.portB := rfl
@[simp] theorem State.setHead_bus (s : State) (j : Job) : (s.setHead j).bus = s.bus := rfl
@[simp] theorem State.setHead_notices (s : State) (j : Job) : (s.setHead j).notices = s.notices := rfl
@[simp] theorem State.setHead_link (s : State) (j : Job) : (s.setHead j).link = s.link := rfl
@[simp] theorem State.setHead_busyLineA (s : State) (j : Job) : (s.setHead j).busyLineA = s.busyLineA := rfl
@[simp] theorem State.setHead_busyLineB (s : State) (j : Job) : (s.setHead j).busyLineB = s.busyLineB := rfl
@[simp] theorem State.setHead_powerOns (s : State) (j : Job) : (s.setHead j).powerOns = s.powerOns := rfl
@[simp] theorem State.setHead_pending (s : State) (j : Job) : (s.setHead j).pending = s.pending := rfl

@[simp] theorem State.setPort_mem (s : State) (p : Port) (r : PortRec) :
    (s.setPort p r).mem = s.mem := by cases p <;> rfl
@[simp] theorem State.setPort_freeList (s : State) (p : Port) (r : PortRec) :
    (s.setPort p r).freeList = s.freeList := by cases p <;> rfl
@[simp] theorem State.setPort_planes (s : State) (p : Port) (r : PortRec) :
    (s.setPort p r).planes = s.planes := by cases p <;> rfl
@[simp] theorem State.setPort_layoutLock (s : State) (p : Port) (r : PortRec) :
    (s.setPort p r).layoutLock = s.layoutLock := by cases p <;> rfl
@[simp] theorem State.setPort_patterns (s : State) (p : Port) (r : PortRec) :
    (s.setPort p r).patterns = s.patterns := by cases p <;> rfl
@[simp] theorem State.setPort_jobs (s : State) (p : Port) (r : PortRec) :
    (s.setPort p r).jobs = s.jobs := by cases p <;> rfl
@[simp] theorem State.setPort_jobCounter (s : State) (p : Port) (r : PortRec) :
    (s.setPort p r).jobCounter = s.jobCounter := by cases p <;> rfl
@[simp] theorem State.setPort_writeHold (s : State) (p : Port) (r : PortRec) :
    (s.setPort p r).writeHold = s.writeHold := by cases p <;> rfl
@[simp] theorem State.setPort_staging (s : State) (p : Port) (r : PortRec) :
    (s.setPort p r).staging = s.staging := by cases p <;> rfl
@[simp] theorem State.setPort_dataTimer (s : State) (p : Port) (r : PortRec) :
    (s.setPort p r).dataTimer = s.dataTimer := by cases p <;> rfl
@[simp] theorem State.setPort_fonts (s : State) (p : Port) (r : PortRec) :
    (s.setPort p r).fonts = s.fonts := by cases p <;> rfl
@[simp] theorem State.setPort_glyphs (s : State) (p : Port) (r : PortRec) :
    (s.setPort p r).glyphs = s.glyphs := by cases p <;> rfl
@[simp] theorem State.setPort_bus (s : State) (p : Port) (r : PortRec) :
    (s.setPort p r).bus = s.bus := by cases p <;> rfl
@[simp] theorem State.setPort_notices (s : State) (p : Port) (r : PortRec) :
    (s.setPort p r).notices = s.notices := by cases p <;> rfl
@[simp] theorem State.setPort_link (s : State) (p : Port) (r : PortRec) :
    (s.setPort p r).link = s.link := by cases p <;> rfl
@[simp] theorem State.setPort_busyLineA (s : State) (p : Port) (r : PortRec) :
    (s.setPort p r).busyLineA = s.busyLineA := by cases p <;> rfl
@[simp] theorem State.setPort_busyLineB (s : State) (p : Port) (r : PortRec) :
    (s.setPort p r).busyLineB = s.busyLineB := by cases p <;> rfl
@[simp] theorem State.setPort_powerOns (s : State) (p : Port) (r : PortRec) :
    (s.setPort p r).powerOns = s.powerOns := by cases p <;> rfl
@[simp] theorem State.setPort_pending (s : State) (p : Port) (r : PortRec) :
    (s.setPort p r).pending = s.pending := by cases p <;> rfl

@[simp] theorem State.setBusyLine_mem (s : State) (p : Port) (v : Bool) :
    (s.setBusyLine p v).mem = s.mem := by cases p <;> rfl
@[simp] theorem State.setBusyLine_freeList (s : State) (p : Port) (v : Bool) :
    (s.setBusyLine p v).freeList = s.freeList := by cases p <;> rfl
@[simp] theorem State.setBusyLine_planes (s : State) (p : Port) (v : Bool) :
    (s.setBusyLine p v).planes = s.planes := by cases p <;> rfl
@[simp] theorem State.setBusyLine_layoutLock (s : State) (p : Port) (v : Bool) :
    (s.setBusyLine p v).layoutLock = s.layoutLock := by cases p <;> rfl
@[simp] theorem State.setBusyLine_patterns (s : State) (p : Port) (v : Bool) :
    (s.setBusyLine p v).patterns = s.patterns := by cases p <;> rfl
@[simp] theorem State.setBusyLine_jobs (s : State) (p : Port) (v : Bool) :
    (s.setBusyLine p v).jobs = s.jobs := by cases p <;> rfl
@[simp] theorem State.setBusyLine_jobCounter (s : State) (p : Port) (v : Bool) :
    (s.setBusyLine p v).jobCounter = s.jobCounter := by cases p <;> rfl
@[simp] theorem State.setBusyLine_writeHold (s : State) (p : Port) (v : Bool) :
    (s.setBusyLine p v).writeHold = s.writeHold := by cases p <;> rfl
@[simp] theorem State.setBusyLine_staging (s : State) (p : Port) (v : Bool) :
    (s.setBusyLine p v).staging = s.staging := by cases p <;> rfl
@[simp] theorem State.setBusyLine_dataTimer (s : State) (p : Port) (v : Bool) :
    (s.setBusyLine p v).dataTimer = s.dataTimer := by cases p <;> rfl
@[simp] theorem State.setBusyLine_fonts (s : State) (p : Port) (v : Bool) :
    (s.setBusyLine p v).fonts = s.fonts := by cases p <;> rfl
@[simp] theorem State.setBusyLine_glyphs (s : State) (p : Port) (v : Bool) :
    (s.setBusyLine p v).glyphs = s.glyphs := by cases p <;> rfl
@[simp] theorem State.setBusyLine_portA (s : State) (p : Port) (v : Bool) :
    (s.setBusyLine p v).portA = s.portA := by cases p <;> rfl
@[simp] theorem State.setBusyLine_portB (s : State) (p : Port) (v : Bool) :
    (s.setBusyLine p v).portB = s.portB := by cases p <;> rfl
@[simp] theorem State.setBusyLine_bus (s : State) (p : Port) (v : Bool) :
    (s.setBusyLine p v).bus = s.bus := by cases p <;> rfl
@[simp] theorem State.setBusyLine_notices (s : State) (p : Port) (v : Bool) :
    (s.setBusyLine p v).notices = s.notices := by cases p <;> rfl
@[simp] theorem State.setBusyLine_link (s : State) (p : Port) (v : Bool) :
    (s.setBusyLine p v).link = s.link := by cases p <;> rfl
@[simp] theorem State.setBusyLine_powerOns (s : State) (p : Port) (v : Bool) :
    (s.setBusyLine p v).powerOns = s.powerOns := by cases p <;> rfl
@[simp] theorem State.setBusyLine_pending (s : State) (p : Port) (v : Bool) :
    (s.setBusyLine p v).pending = s.pending := by cases p <;> rfl

@[simp] theorem State.pushNotice_mem (s : State) (c : NoticeContent) : (s.pushNotice c).mem = s.mem := rfl
@[simp] theorem State.pushNotice_freeList (s : State) (c : NoticeContent) :
    (s.pushNotice c).freeList = s.freeList := rfl
@[simp] theorem State.pushNotice_planes (s : State) (c : NoticeContent) : (s.pushNotice c).planes = s.planes := rfl
@[simp] theorem State.pushNotice_layoutLock (s : State) (c : NoticeContent) :
    (s.pushNotice c).layoutLock = s.layoutLock := rfl
@[simp] theorem State.pushNotice_patterns (s : State) (c : NoticeContent) :
    (s.pushNotice c).patterns = s.patterns := rfl
@[simp] theorem State.pushNotice_jobs (s : State) (c : NoticeContent) : (s.pushNotice c).jobs = s.jobs := rfl
@[simp] theorem State.pushNotice_jobCounter (s : State) (c : NoticeContent) :
    (s.pushNotice c).jobCounter = s.jobCounter := rfl
@[simp] theorem State.pushNotice_writeHold (s : State) (c : NoticeContent) :
    (s.pushNotice c).writeHold = s.writeHold := rfl
@[simp] theorem State.pushNotice_staging (s : State) (c : NoticeContent) : (s.pushNotice c).staging = s.staging := rfl
@[simp] theorem State.pushNotice_dataTimer (s : State) (c : NoticeContent) :
    (s.pushNotice c).dataTimer = s.dataTimer := rfl
@[simp] theorem State.pushNotice_fonts (s : State) (c : NoticeContent) : (s.pushNotice c).fonts = s.fonts := rfl
@[simp] theorem State.pushNotice_glyphs (s : State) (c : NoticeContent) : (s.pushNotice c).glyphs = s.glyphs := rfl
@[simp] theorem State.pushNotice_portA (s : State) (c : NoticeContent) : (s.pushNotice c).portA = s.portA := rfl
@[simp] theorem State.pushNotice_portB (s : State) (c : NoticeContent) : (s.pushNotice c).portB = s.portB := rfl
@[simp] theorem State.pushNotice_bus (s : State) (c : NoticeContent) : (s.pushNotice c).bus = s.bus := rfl
@[simp] theorem State.pushNotice_notices (s : State) (c : NoticeContent) :
    (s.pushNotice c).notices = s.notices.push c := rfl
@[simp] theorem State.pushNotice_link (s : State) (c : NoticeContent) : (s.pushNotice c).link = s.link := rfl
@[simp] theorem State.pushNotice_busyLineA (s : State) (c : NoticeContent) :
    (s.pushNotice c).busyLineA = s.busyLineA := rfl
@[simp] theorem State.pushNotice_busyLineB (s : State) (c : NoticeContent) :
    (s.pushNotice c).busyLineB = s.busyLineB := rfl
@[simp] theorem State.pushNotice_powerOns (s : State) (c : NoticeContent) :
    (s.pushNotice c).powerOns = s.powerOns := rfl
@[simp] theorem State.pushNotice_pending (s : State) (c : NoticeContent) : (s.pushNotice c).pending = s.pending := rfl

@[simp] theorem State.answer_mem (s : State) (r : Reply) : (s.answer r).mem = s.mem := rfl
@[simp] theorem State.answer_freeList (s : State) (r : Reply) : (s.answer r).freeList = s.freeList := rfl
@[simp] theorem State.answer_planes (s : State) (r : Reply) : (s.answer r).planes = s.planes := rfl
@[simp] theorem State.answer_layoutLock (s : State) (r : Reply) : (s.answer r).layoutLock = s.layoutLock := rfl
@[simp] theorem State.answer_patterns (s : State) (r : Reply) : (s.answer r).patterns = s.patterns := rfl
@[simp] theorem State.answer_jobs (s : State) (r : Reply) : (s.answer r).jobs = s.jobs := rfl
@[simp] theorem State.answer_jobCounter (s : State) (r : Reply) : (s.answer r).jobCounter = s.jobCounter := rfl
@[simp] theorem State.answer_writeHold (s : State) (r : Reply) : (s.answer r).writeHold = s.writeHold := rfl
@[simp] theorem State.answer_staging (s : State) (r : Reply) : (s.answer r).staging = s.staging := rfl
@[simp] theorem State.answer_dataTimer (s : State) (r : Reply) : (s.answer r).dataTimer = s.dataTimer := rfl
@[simp] theorem State.answer_fonts (s : State) (r : Reply) : (s.answer r).fonts = s.fonts := rfl
@[simp] theorem State.answer_glyphs (s : State) (r : Reply) : (s.answer r).glyphs = s.glyphs := rfl
@[simp] theorem State.answer_portA (s : State) (r : Reply) : (s.answer r).portA = s.portA := rfl
@[simp] theorem State.answer_portB (s : State) (r : Reply) : (s.answer r).portB = s.portB := rfl
@[simp] theorem State.answer_bus (s : State) (r : Reply) : (s.answer r).bus = s.bus := rfl
@[simp] theorem State.answer_notices (s : State) (r : Reply) : (s.answer r).notices = s.notices := rfl
@[simp] theorem State.answer_link (s : State) (r : Reply) :
    (s.answer r).link = { s.link with slots := s.link.slots.map (Slot.answer r), work := none } := rfl
@[simp] theorem State.answer_busyLineA (s : State) (r : Reply) : (s.answer r).busyLineA = s.busyLineA := rfl
@[simp] theorem State.answer_busyLineB (s : State) (r : Reply) : (s.answer r).busyLineB = s.busyLineB := rfl
@[simp] theorem State.answer_powerOns (s : State) (r : Reply) : (s.answer r).powerOns = s.powerOns := rfl
@[simp] theorem State.answer_pending (s : State) (r : Reply) : (s.answer r).pending = s.pending := rfl

@[simp] theorem State.refuse_mem (s : State) (st : Status) : (s.refuse st).mem = s.mem := rfl
@[simp] theorem State.refuse_freeList (s : State) (st : Status) : (s.refuse st).freeList = s.freeList := rfl
@[simp] theorem State.refuse_planes (s : State) (st : Status) : (s.refuse st).planes = s.planes := rfl
@[simp] theorem State.refuse_layoutLock (s : State) (st : Status) : (s.refuse st).layoutLock = s.layoutLock := rfl
@[simp] theorem State.refuse_patterns (s : State) (st : Status) : (s.refuse st).patterns = s.patterns := rfl
@[simp] theorem State.refuse_jobs (s : State) (st : Status) : (s.refuse st).jobs = s.jobs := rfl
@[simp] theorem State.refuse_jobCounter (s : State) (st : Status) : (s.refuse st).jobCounter = s.jobCounter := rfl
@[simp] theorem State.refuse_writeHold (s : State) (st : Status) : (s.refuse st).writeHold = s.writeHold := rfl
@[simp] theorem State.refuse_staging (s : State) (st : Status) : (s.refuse st).staging = s.staging := rfl
@[simp] theorem State.refuse_dataTimer (s : State) (st : Status) : (s.refuse st).dataTimer = s.dataTimer := rfl
@[simp] theorem State.refuse_fonts (s : State) (st : Status) : (s.refuse st).fonts = s.fonts := rfl
@[simp] theorem State.refuse_glyphs (s : State) (st : Status) : (s.refuse st).glyphs = s.glyphs := rfl
@[simp] theorem State.refuse_portA (s : State) (st : Status) : (s.refuse st).portA = s.portA := rfl
@[simp] theorem State.refuse_portB (s : State) (st : Status) : (s.refuse st).portB = s.portB := rfl
@[simp] theorem State.refuse_bus (s : State) (st : Status) : (s.refuse st).bus = s.bus := rfl
@[simp] theorem State.refuse_notices (s : State) (st : Status) : (s.refuse st).notices = s.notices := rfl
@[simp] theorem State.refuse_busyLineA (s : State) (st : Status) : (s.refuse st).busyLineA = s.busyLineA := rfl
@[simp] theorem State.refuse_busyLineB (s : State) (st : Status) : (s.refuse st).busyLineB = s.busyLineB := rfl
@[simp] theorem State.refuse_powerOns (s : State) (st : Status) : (s.refuse st).powerOns = s.powerOns := rfl
@[simp] theorem State.refuse_pending (s : State) (st : Status) : (s.refuse st).pending = s.pending := rfl

@[simp] theorem State.occupy_mem (s : State) (w : Work) : (s.occupy w).mem = s.mem := rfl
@[simp] theorem State.occupy_freeList (s : State) (w : Work) : (s.occupy w).freeList = s.freeList := rfl
@[simp] theorem State.occupy_planes (s : State) (w : Work) : (s.occupy w).planes = s.planes := rfl
@[simp] theorem State.occupy_layoutLock (s : State) (w : Work) : (s.occupy w).layoutLock = s.layoutLock := rfl
@[simp] theorem State.occupy_patterns (s : State) (w : Work) : (s.occupy w).patterns = s.patterns := rfl
@[simp] theorem State.occupy_jobs (s : State) (w : Work) : (s.occupy w).jobs = s.jobs := rfl
@[simp] theorem State.occupy_jobCounter (s : State) (w : Work) : (s.occupy w).jobCounter = s.jobCounter := rfl
@[simp] theorem State.occupy_writeHold (s : State) (w : Work) : (s.occupy w).writeHold = s.writeHold := rfl
@[simp] theorem State.occupy_staging (s : State) (w : Work) : (s.occupy w).staging = s.staging := rfl
@[simp] theorem State.occupy_dataTimer (s : State) (w : Work) : (s.occupy w).dataTimer = s.dataTimer := rfl
@[simp] theorem State.occupy_fonts (s : State) (w : Work) : (s.occupy w).fonts = s.fonts := rfl
@[simp] theorem State.occupy_glyphs (s : State) (w : Work) : (s.occupy w).glyphs = s.glyphs := rfl
@[simp] theorem State.occupy_portA (s : State) (w : Work) : (s.occupy w).portA = s.portA := rfl
@[simp] theorem State.occupy_portB (s : State) (w : Work) : (s.occupy w).portB = s.portB := rfl
@[simp] theorem State.occupy_bus (s : State) (w : Work) : (s.occupy w).bus = s.bus := rfl
@[simp] theorem State.occupy_notices (s : State) (w : Work) : (s.occupy w).notices = s.notices := rfl
@[simp] theorem State.occupy_link (s : State) (w : Work) : (s.occupy w).link = { s.link with work := some w } := rfl
@[simp] theorem State.occupy_busyLineA (s : State) (w : Work) : (s.occupy w).busyLineA = s.busyLineA := rfl
@[simp] theorem State.occupy_busyLineB (s : State) (w : Work) : (s.occupy w).busyLineB = s.busyLineB := rfl
@[simp] theorem State.occupy_powerOns (s : State) (w : Work) : (s.occupy w).powerOns = s.powerOns := rfl
@[simp] theorem State.occupy_pending (s : State) (w : Work) : (s.occupy w).pending = s.pending := rfl

@[simp] theorem State.takeRequest_mem (s : State) : (s.takeRequest).mem = s.mem := rfl
@[simp] theorem State.takeRequest_freeList (s : State) : (s.takeRequest).freeList = s.freeList := rfl
@[simp] theorem State.takeRequest_planes (s : State) : (s.takeRequest).planes = s.planes := rfl
@[simp] theorem State.takeRequest_layoutLock (s : State) : (s.takeRequest).layoutLock = s.layoutLock := rfl
@[simp] theorem State.takeRequest_patterns (s : State) : (s.takeRequest).patterns = s.patterns := rfl
@[simp] theorem State.takeRequest_jobs (s : State) : (s.takeRequest).jobs = s.jobs := rfl
@[simp] theorem State.takeRequest_jobCounter (s : State) : (s.takeRequest).jobCounter = s.jobCounter := rfl
@[simp] theorem State.takeRequest_writeHold (s : State) : (s.takeRequest).writeHold = s.writeHold := rfl
@[simp] theorem State.takeRequest_staging (s : State) : (s.takeRequest).staging = s.staging := rfl
@[simp] theorem State.takeRequest_dataTimer (s : State) : (s.takeRequest).dataTimer = s.dataTimer := rfl
@[simp] theorem State.takeRequest_fonts (s : State) : (s.takeRequest).fonts = s.fonts := rfl
@[simp] theorem State.takeRequest_glyphs (s : State) : (s.takeRequest).glyphs = s.glyphs := rfl
@[simp] theorem State.takeRequest_portA (s : State) : (s.takeRequest).portA = s.portA := rfl
@[simp] theorem State.takeRequest_portB (s : State) : (s.takeRequest).portB = s.portB := rfl
@[simp] theorem State.takeRequest_bus (s : State) : (s.takeRequest).bus = s.bus := rfl
@[simp] theorem State.takeRequest_notices (s : State) : (s.takeRequest).notices = s.notices := rfl
@[simp] theorem State.takeRequest_busyLineA (s : State) : (s.takeRequest).busyLineA = s.busyLineA := rfl
@[simp] theorem State.takeRequest_busyLineB (s : State) : (s.takeRequest).busyLineB = s.busyLineB := rfl
@[simp] theorem State.takeRequest_powerOns (s : State) : (s.takeRequest).powerOns = s.powerOns := rfl
@[simp] theorem State.takeRequest_pending (s : State) : (s.takeRequest).pending = s.pending := rfl

@[simp] theorem State.setReceiver_mem (s : State) (r : Receiver) : (s.setReceiver r).mem = s.mem := rfl
@[simp] theorem State.setReceiver_freeList (s : State) (r : Receiver) : (s.setReceiver r).freeList = s.freeList := rfl
@[simp] theorem State.setReceiver_planes (s : State) (r : Receiver) : (s.setReceiver r).planes = s.planes := rfl
@[simp] theorem State.setReceiver_layoutLock (s : State) (r : Receiver) :
    (s.setReceiver r).layoutLock = s.layoutLock := rfl
@[simp] theorem State.setReceiver_patterns (s : State) (r : Receiver) : (s.setReceiver r).patterns = s.patterns := rfl
@[simp] theorem State.setReceiver_jobs (s : State) (r : Receiver) : (s.setReceiver r).jobs = s.jobs := rfl
@[simp] theorem State.setReceiver_jobCounter (s : State) (r : Receiver) :
    (s.setReceiver r).jobCounter = s.jobCounter := rfl
@[simp] theorem State.setReceiver_writeHold (s : State) (r : Receiver) :
    (s.setReceiver r).writeHold = s.writeHold := rfl
@[simp] theorem State.setReceiver_staging (s : State) (r : Receiver) : (s.setReceiver r).staging = s.staging := rfl
@[simp] theorem State.setReceiver_dataTimer (s : State) (r : Receiver) :
    (s.setReceiver r).dataTimer = s.dataTimer := rfl
@[simp] theorem State.setReceiver_fonts (s : State) (r : Receiver) : (s.setReceiver r).fonts = s.fonts := rfl
@[simp] theorem State.setReceiver_glyphs (s : State) (r : Receiver) : (s.setReceiver r).glyphs = s.glyphs := rfl
@[simp] theorem State.setReceiver_portA (s : State) (r : Receiver) : (s.setReceiver r).portA = s.portA := rfl
@[simp] theorem State.setReceiver_portB (s : State) (r : Receiver) : (s.setReceiver r).portB = s.portB := rfl
@[simp] theorem State.setReceiver_bus (s : State) (r : Receiver) : (s.setReceiver r).bus = s.bus := rfl
@[simp] theorem State.setReceiver_notices (s : State) (r : Receiver) : (s.setReceiver r).notices = s.notices := rfl
@[simp] theorem State.setReceiver_link (s : State) (r : Receiver) :
    (s.setReceiver r).link = { s.link with receiver := r } := rfl
@[simp] theorem State.setReceiver_busyLineA (s : State) (r : Receiver) :
    (s.setReceiver r).busyLineA = s.busyLineA := rfl
@[simp] theorem State.setReceiver_busyLineB (s : State) (r : Receiver) :
    (s.setReceiver r).busyLineB = s.busyLineB := rfl
@[simp] theorem State.setReceiver_powerOns (s : State) (r : Receiver) : (s.setReceiver r).powerOns = s.powerOns := rfl
@[simp] theorem State.setReceiver_pending (s : State) (r : Receiver) : (s.setReceiver r).pending = s.pending := rfl

@[simp] theorem State.discardFrame_mem (s : State) : (s.discardFrame).mem = s.mem := rfl
@[simp] theorem State.discardFrame_freeList (s : State) : (s.discardFrame).freeList = s.freeList := rfl
@[simp] theorem State.discardFrame_planes (s : State) : (s.discardFrame).planes = s.planes := rfl
@[simp] theorem State.discardFrame_layoutLock (s : State) : (s.discardFrame).layoutLock = s.layoutLock := rfl
@[simp] theorem State.discardFrame_patterns (s : State) : (s.discardFrame).patterns = s.patterns := rfl
@[simp] theorem State.discardFrame_jobs (s : State) : (s.discardFrame).jobs = s.jobs := rfl
@[simp] theorem State.discardFrame_jobCounter (s : State) : (s.discardFrame).jobCounter = s.jobCounter := rfl
@[simp] theorem State.discardFrame_writeHold (s : State) : (s.discardFrame).writeHold = s.writeHold := rfl
@[simp] theorem State.discardFrame_staging (s : State) : (s.discardFrame).staging = s.staging := rfl
@[simp] theorem State.discardFrame_dataTimer (s : State) : (s.discardFrame).dataTimer = s.dataTimer := rfl
@[simp] theorem State.discardFrame_fonts (s : State) : (s.discardFrame).fonts = s.fonts := rfl
@[simp] theorem State.discardFrame_glyphs (s : State) : (s.discardFrame).glyphs = s.glyphs := rfl
@[simp] theorem State.discardFrame_portA (s : State) : (s.discardFrame).portA = s.portA := rfl
@[simp] theorem State.discardFrame_portB (s : State) : (s.discardFrame).portB = s.portB := rfl
@[simp] theorem State.discardFrame_bus (s : State) : (s.discardFrame).bus = s.bus := rfl
@[simp] theorem State.discardFrame_notices (s : State) : (s.discardFrame).notices = s.notices := rfl
@[simp] theorem State.discardFrame_link (s : State) :
    (s.discardFrame).link = { s.link with receiver := .hunt, flags := { s.link.flags with framing := true } } := rfl
@[simp] theorem State.discardFrame_busyLineA (s : State) : (s.discardFrame).busyLineA = s.busyLineA := rfl
@[simp] theorem State.discardFrame_busyLineB (s : State) : (s.discardFrame).busyLineB = s.busyLineB := rfl
@[simp] theorem State.discardFrame_powerOns (s : State) : (s.discardFrame).powerOns = s.powerOns := rfl
@[simp] theorem State.discardFrame_pending (s : State) : (s.discardFrame).pending = s.pending := rfl

/-! ## The tables after a write -/

/-- A handle outside 1 to 24 reads as FREE. -/
theorem State.plane_outside (s : State) (h : Nat) (hh : h = 0 ∨ 24 < h) : s.plane h = freePlaneRecord := by
  unfold State.plane
  split
  · have h1 : ¬ h - 1 < 24 := by omega
    simp [h1]
  · rfl

/-- The record of a handle after the record of a handle from 1 to 24 has been replaced. -/
theorem State.plane_setPlane (s : State) (h k : Nat) (p : Plane) (hk : 1 ≤ k) (hk2 : k ≤ 24) :
    (s.setPlane k p).plane h = if h = k then p else s.plane h := by
  unfold State.setPlane State.plane
  by_cases h1 : 1 ≤ h
  · by_cases he : h = k
    · subst he
      have : h - 1 < 24 := by omega
      simp [hk, this]
    · have hne : ¬ k - 1 = h - 1 := by omega
      simp [hk, h1, he, hne]
  · have he : ¬ h = k := by omega
    simp [h1, he]

/-- A handle outside 1 to 24 has no record to replace. -/
theorem State.plane_setPlane_outside (s : State) (h k : Nat) (p : Plane) (hk : k = 0 ∨ 24 < k) :
    (s.setPlane k p).plane h = s.plane h := by
  unfold State.setPlane
  split
  · unfold State.plane
    by_cases h1 : 1 ≤ h
    · by_cases he : h = k
      · subst he
        have : ¬ h - 1 < 24 := by omega
        simp [h1, this]
      · have hne : ¬ k - 1 = h - 1 := by omega
        simp [h1, hne]
    · simp [h1]
  · rfl

/-- The record of a font id after the record of an id from 0 to 3 has been replaced. -/
theorem State.font_setFont (s : State) (i k : Nat) (f : Font) (hk : k ≤ 3) :
    (s.setFont k f).font i = if i = k then f else s.font i := by
  have h4 : k < 4 := by omega
  by_cases he : i = k
  · subst he; simp [State.font, h4]
  · have hne : ¬ k = i := fun h => he h.symm
    simp [State.font, he, hne]

/-- An id above 3 reads as UNDEFINED. -/
theorem State.font_outside (s : State) (i : Nat) (hi : 3 < i) : s.font i = undefinedFont := by
  have h4 : ¬ i < 4 := by omega
  simp [State.font, h4]

/-- A port's record after a port's record has been replaced. -/
@[simp] theorem State.port_setPort (s : State) (p o : Port) (r : PortRec) :
    (s.setPort p r).port o = if o = p then r else s.port o := by
  cases p <;> cases o <;> rfl

/-- The last record written to a port is the one it has. -/
@[simp] theorem State.setPort_setPort (s : State) (p : Port) (r u : PortRec) :
    (s.setPort p r).setPort p u = s.setPort p u := by
  cases p <;> rfl

/-- Writing back a port's own record changes nothing. -/
@[simp] theorem State.setPort_port (s : State) (p : Port) : s.setPort p (s.port p) = s := by
  cases p <;> rfl

/-- A record reads through an update of any other part. -/
theorem State.plane_congr {s t : State} (h : t.planes = s.planes) (k : Nat) : t.plane k = s.plane k := by
  simp [State.plane, h]

/-- A font record reads through an update of any other part. -/
theorem State.font_congr {s t : State} (h : t.fonts = s.fonts) (k : Nat) : t.font k = s.font k := by
  simp [State.font, h]

/-- A byte reads through an update of any other part. -/
theorem State.readByte_congr {s t : State} (h : t.mem = s.mem) (h' : t.powerOns = s.powerOns) (a : Nat) :
    t.readByte a = s.readByte a := by
  simp [State.readByte, h, h']

/-- A port record reads through an update of any other part. -/
theorem State.port_congr {s t : State} (ha : t.portA = s.portA) (hb : t.portB = s.portB) (p : Port) :
    t.port p = s.port p := by
  cases p <;> simp [State.port, ha, hb]

end Sys2Proof.Machine
end

