-- ==== Sys2Proof/Laws/Frames.lean ====
section
/-! SUPPORT. What the shared operations can change at most: the transmitter's choice touches the notice unit and the
host link, the arbiter the ports and the bus, and the job engine's look at its head nothing outside the engine, the plane
table, the free list, the ports, the bus and the notice unit. -/

namespace Sys2Proof.Machine

/-! ## The transmitter -/

/-- The transmitter's choice touches the notice unit and the link alone. -/
theorem State.transmit_frame (s : State) :
    s.transmit = { s with notices := s.transmit.notices, link := s.transmit.link } := by
  unfold State.transmit State.beginNotice
  repeat' split
  all_goals rfl

/-- A transmitter that is sending begins nothing. -/
theorem State.transmit_busy {s : State} (h : ¬ s.link.sending = none) : s.transmit = s := by
  unfold State.transmit
  split
  · rfl
  · next hn => exact absurd hn h

/-- The transmitter's choice leaves the receiver, the cache, the rate and the work in hand. -/
theorem State.transmit_link (s : State) :
    s.transmit.link.receiver = s.link.receiver ∧ s.transmit.link.cache = s.link.cache ∧
      s.transmit.link.rate = s.link.rate ∧ s.transmit.link.work = s.link.work := by
  unfold State.transmit State.beginNotice Link.beginReply
  repeat' split
  all_goals exact ⟨rfl, rfl, rfl, rfl⟩

/-! ## The ports and the bus -/

/-- `t` differs from `s` in the ports and the bus at most. -/
def PortsOnly (s t : State) : Prop := t = { s with portA := t.portA, portB := t.portB, bus := t.bus }

/-- Nothing changed is within the ports and the bus. -/
theorem PortsOnly.refl (s : State) : PortsOnly s s := rfl

/-- Two changes within the ports and the bus are one. -/
theorem PortsOnly.trans {s t u : State} (h : PortsOnly s t) (k : PortsOnly t u) : PortsOnly s u := by
  unfold PortsOnly at *
  rw [h] at k
  exact k

/-- What a change of the ports and the bus leaves of the engine. -/
theorem PortsOnly.keeps {s t : State} (h : PortsOnly s t) :
    t.freeList = s.freeList ∧ t.planes = s.planes ∧ t.layoutLock = s.layoutLock ∧ t.jobs = s.jobs ∧
      t.writeHold = s.writeHold ∧ t.staging = s.staging ∧ t.dataTimer = s.dataTimer ∧ t.notices = s.notices ∧
      t.link = s.link := by
  unfold PortsOnly at h
  rw [h]
  exact ⟨rfl, rfl, rfl, rfl, rfl, rfl, rfl, rfl, rfl⟩

/-- A port's record. -/
theorem PortsOnly.setPort (s : State) (p : Port) (r : PortRec) : PortsOnly s (s.setPort p r) := by
  cases p <;> rfl

/-- A grant. -/
theorem PortsOnly.grantPort (s : State) (p : Port) : PortsOnly s (s.grantPort p) := by
  cases p <;> rfl

/-- The arbiter, any number of turns. -/
theorem PortsOnly.arbitrateFor (n : Nat) (s : State) : PortsOnly s (arbitrateFor n s) := by
  induction n generalizing s with
  | zero => exact .refl s
  | succ n ih =>
    unfold Machine.arbitrateFor
    split
    · exact .refl s
    · exact .refl s
    · split
      · exact .refl s
      · rfl
      · exact (PortsOnly.grantPort s _).trans (ih _)

/-- The arbiter. -/
theorem PortsOnly.arbitrate (s : State) : PortsOnly s s.arbitrate := PortsOnly.arbitrateFor 3 s

/-- The bus given back. -/
theorem PortsOnly.giveBack (s : State) : PortsOnly s s.giveBack :=
  PortsOnly.trans (t := { s with bus := { s.bus with owner := .none } }) rfl (.arbitrate _)

/-- A claim. -/
theorem PortsOnly.claimBus (s : State) (p : Port) : PortsOnly s (s.claimBus p) :=
  (PortsOnly.setPort s p _).trans (.arbitrate _)

/-- The ports of a wait claim again. -/
theorem PortsOnly.wakePorts (s : State) (w : Wait) : PortsOnly s (s.wakePorts w) := by
  have one : ∀ (t : State) (p : Port), PortsOnly t (t.wakeFrom w p) := by
    intro t p
    unfold State.wakeFrom State.enterBusWait
    split
    · exact .setPort t p _
    · exact .refl t
  exact ((one s .a).trans (one _ .b)).trans (.arbitrate _)

/-- The damage of a job's end. -/
theorem PortsOnly.recordDamage (s : State) (h : Nat) (r : Rect) : PortsOnly s (s.recordDamage h r) := by
  have one : ∀ (t : State) (p : Port), PortsOnly t (t.damagePort h r p) := by
    intro t p
    unfold State.damagePort
    split
    · exact .setPort t p _
    · exact .refl t
  exact (one s .a).trans (one _ .b)

/-- The rows of a running job recorded as damage. -/
theorem PortsOnly.recordRows (s : State) (n : Nat) : PortsOnly s (s.recordRows n) := by
  unfold State.recordRows
  split
  · exact .refl s
  · split
    · exact .refl s
    · exact .recordDamage s _ _

/-- What a SHOW does. -/
theorem PortsOnly.showPort (s : State) (p : Port) (f : Bool) : PortsOnly s (s.showPort p f).1 := by
  unfold State.showPort
  dsimp only
  split
  · exact .refl s
  · split
    · exact .refl s
    · exact (PortsOnly.setPort s p _).trans (.claimBus _ p)
  · exact .setPort s p _
  · exact .setPort s p _
  · exact .setPort s p _
  · exact .refl s

/-! ## The job engine -/

/-- `t` differs from `s` in the job engine, the plane table, the free list, the ports, the bus and the notice unit at
most: memory, patterns, fonts, the link, the busy lines and the model's own fields are those of `s`. -/
def EngineOnly (s t : State) : Prop :=
  t = { s with
    freeList := t.freeList, planes := t.planes, layoutLock := t.layoutLock, jobs := t.jobs
    writeHold := t.writeHold, staging := t.staging, dataTimer := t.dataTimer, portA := t.portA
    portB := t.portB, bus := t.bus, notices := t.notices }

/-- Nothing changed is within the engine. -/
theorem EngineOnly.refl (s : State) : EngineOnly s s := rfl

/-- Two changes within the engine are one. -/
theorem EngineOnly.trans {s t u : State} (h : EngineOnly s t) (k : EngineOnly t u) : EngineOnly s u := by
  unfold EngineOnly at *
  rw [h] at k
  exact k

/-- A change of the ports and the bus is within the engine. -/
theorem PortsOnly.engine {s t : State} (h : PortsOnly s t) : EngineOnly s t := by
  unfold PortsOnly at h
  rw [h]
  rfl

/-- A plane's record. -/
theorem EngineOnly.setPlane (s : State) (h : Nat) (p : Plane) : EngineOnly s (s.setPlane h p) := by
  unfold State.setPlane
  split <;> rfl

/-- A notice. -/
theorem EngineOnly.pushNotice (s : State) (c : NoticeContent) : EngineOnly s (s.pushNotice c) := rfl

/-- A release. -/
theorem EngineOnly.releasePlane (s : State) (h : Nat) : EngineOnly s (s.releasePlane h) :=
  EngineOnly.trans (t := { s with freeList := releaseExtent s.freeList (s.plane h).extent }) rfl (.setPlane _ _ _)

/-- A release with its notice. -/
theorem EngineOnly.releaseWithNotice (s : State) (h : Nat) : EngineOnly s (s.releaseWithNotice h) :=
  (EngineOnly.releasePlane s h).trans (.pushNotice _ _)

/-- A fold of changes within the engine. -/
theorem EngineOnly.foldl {α : Type} (f : State → α → State) (hf : ∀ s a, EngineOnly s (f s a)) (l : List α)
    (s : State) : EngineOnly s (l.foldl f s) := by
  induction l generalizing s with
  | nil => exact .refl s
  | cons a l ih => exact (hf s a).trans (ih _)

/-- A departure. -/
theorem EngineOnly.depart (s : State) (gone kept : List Job) (r : Bool) : EngineOnly s (s.depart gone kept r) := by
  have low : EngineOnly s (s.lowerRefs gone) := EngineOnly.foldl _ (fun t h => .setPlane t h _) _ s
  have refs : EngineOnly (s.lowerRefs gone) ((s.lowerRefs gone).endReferences gone) := by
    refine EngineOnly.foldl _ (fun t h => ?_) _ _
    unfold State.endReference
    split
    · split
      · exact .setPlane t h _
      · exact .releaseWithNotice t h
    · exact .refl t
  unfold State.depart
  cases r
  · exact (low.trans refs).trans rfl
  · exact low.trans rfl

/-- `t` differs from `s` in the plane table, the free list and the notice unit at most. -/
def TableOnly (s t : State) : Prop := t = { s with freeList := t.freeList, planes := t.planes, notices := t.notices }

/-- Nothing changed is within the table. -/
theorem TableOnly.refl (s : State) : TableOnly s s := rfl

/-- Two changes within the table are one. -/
theorem TableOnly.trans {s t u : State} (h : TableOnly s t) (k : TableOnly t u) : TableOnly s u := by
  unfold TableOnly at *
  rw [h] at k
  exact k

/-- A plane's record. -/
theorem TableOnly.setPlane (s : State) (h : Nat) (p : Plane) : TableOnly s (s.setPlane h p) := by
  unfold State.setPlane
  split <;> rfl

/-- A release with its notice. -/
theorem TableOnly.releaseWithNotice (s : State) (h : Nat) : TableOnly s (s.releaseWithNotice h) :=
  (TableOnly.trans (t := { s with freeList := releaseExtent s.freeList (s.plane h).extent }) rfl
    (.setPlane _ h freePlaneRecord)).trans rfl

/-- A fold of changes within the table. -/
theorem TableOnly.foldl {α : Type} (f : State → α → State) (hf : ∀ s a, TableOnly s (f s a)) (l : List α)
    (s : State) : TableOnly s (l.foldl f s) := by
  induction l generalizing s with
  | nil => exact .refl s
  | cons a l ih => exact (hf s a).trans (ih _)

/-- Ref counts lowered. -/
theorem TableOnly.lowerRefs (s : State) (gone : List Job) : TableOnly s (s.lowerRefs gone) :=
  TableOnly.foldl _ (fun t h => .setPlane t h _) _ s

/-- References ended. -/
theorem TableOnly.endReferences (s : State) (gone : List Job) : TableOnly s (s.endReferences gone) := by
  refine TableOnly.foldl _ (fun t h => ?_) _ s
  unfold State.endReference
  split
  · split
    · exact .setPlane t h _
    · exact .releaseWithNotice t h
  · exact .refl t

/-- The releases due of PACK. -/
theorem TableOnly.releaseDuePlanes (s : State) : TableOnly s s.releaseDuePlanes := by
  refine TableOnly.foldl _ (fun t h => ?_) _ s
  split
  · exact .releaseWithNotice t h
  · exact .refl t

/-- A departure changes the plane table, the free list and the notice unit, sets the queue to the jobs kept, and
empties the staging buffer when the feeding LOAD goes; it touches nothing else. -/
theorem State.depart_frame (s : State) (gone kept : List Job) (r : Bool) :
    s.depart gone kept r =
      { s with
        freeList := (s.depart gone kept r).freeList, planes := (s.depart gone kept r).planes
        notices := (s.depart gone kept r).notices, jobs := kept, staging := stagingAfter s gone } := by
  have low : TableOnly s (s.lowerRefs gone) := .lowerRefs s gone
  cases r
  · have h : TableOnly s ((s.lowerRefs gone).endReferences gone) := low.trans (.endReferences _ gone)
    have e : s.depart gone kept false =
        { (s.lowerRefs gone).endReferences gone with jobs := kept, staging := stagingAfter s gone } := rfl
    generalize (s.lowerRefs gone).endReferences gone = t at h e
    unfold TableOnly at h
    rw [h] at e
    rw [e]
  · have e : s.depart gone kept true =
        { s.lowerRefs gone with jobs := kept, staging := stagingAfter s gone } := rfl
    generalize s.lowerRefs gone = t at low e
    unfold TableOnly at low
    rw [low] at e
    rw [e]

/-- The write hold released. -/
theorem EngineOnly.releaseWriteHold (s : State) : EngineOnly s s.releaseWriteHold := by
  unfold State.releaseWriteHold
  split
  · exact .refl s
  · exact EngineOnly.trans (t := { s with writeHold := none }) rfl (PortsOnly.wakePorts _ _).engine

/-- The JOB_END. -/
theorem EngineOnly.notifyEnd (s : State) (j : Job) (st : Status) : EngineOnly s (s.notifyEnd j st) := by
  unfold State.notifyEnd
  split
  · exact .pushNotice _ _
  · exact .refl s

/-- The end of the head. -/
theorem EngineOnly.endHead (s : State) (j : Job) (st : Status) : EngineOnly s (s.endHead j st) := by
  have h : EngineOnly s ((s.recordRows j.rowsDone).releaseWriteHold.departHead false) :=
    ((PortsOnly.recordRows s _).engine.trans (.releaseWriteHold _)).trans (.depart _ _ _ _)
  have k : EngineOnly s { (s.recordRows j.rowsDone).releaseWriteHold.departHead false with dataTimer := .stopped } :=
    h.trans rfl
  exact k.trans (.notifyEnd _ j st)

/-- The release of the write hold leaves the queue. -/
theorem State.releaseWriteHold_jobs (s : State) : s.releaseWriteHold.jobs = s.jobs := by
  unfold State.releaseWriteHold
  split
  · rfl
  · exact (PortsOnly.wakePorts _ _).keeps.2.2.2.1

/-- The queue after the end of the head: the jobs behind it. -/
theorem State.endHead_jobs (s : State) (j : Job) (st : Status) : (s.endHead j st).jobs = s.jobs.tail := by
  have e : (s.endHead j st).jobs = (s.recordRows j.rowsDone).releaseWriteHold.jobs.tail := by
    unfold State.endHead State.notifyEnd
    split <;> rfl
  rw [e, State.releaseWriteHold_jobs, (PortsOnly.recordRows s _).keeps.2.2.2.1]

/-- PACK's releases and its lock. -/
theorem EngineOnly.windUpPack (s : State) : EngineOnly s s.windUpPack := by
  have rel : EngineOnly s s.releaseDuePlanes := by
    refine EngineOnly.foldl _ (fun t h => ?_) _ s
    split
    · exact .releaseWithNotice t h
    · exact .refl t
  have lock : ∀ t : State, EngineOnly t t.releaseLayoutLock := by
    intro t
    unfold State.releaseLayoutLock
    split
    · exact EngineOnly.trans (t := { t with layoutLock := false }) rfl (PortsOnly.wakePorts _ _).engine
    · exact .refl t
  exact rel.trans (lock _)

/-- The stop of the head by CANCEL or FLUSH. -/
theorem EngineOnly.stopHead (s : State) (j : Job) : EngineOnly s (s.stopHead j) := by
  have h : ∀ t : State, EngineOnly t ((t.recordRows j.rowsDone).releaseWriteHold.departHead false) := fun t =>
    ((PortsOnly.recordRows t _).engine.trans (.releaseWriteHold _)).trans (.depart _ _ _ _)
  have stopped : ∀ t : State, EngineOnly t
      { (t.recordRows j.rowsDone).releaseWriteHold.departHead false with dataTimer := .stopped } :=
    fun t => (h t).trans rfl
  unfold State.stopHead
  by_cases hp : j.body = .pack
  · rw [if_pos hp]; exact (EngineOnly.windUpPack s).trans (stopped _)
  · rw [if_neg hp]; exact stopped s

/-- The stop of the head by an ENGINE reset. -/
theorem EngineOnly.stopHeadForReset (s : State) (j : Job) : EngineOnly s (s.stopHeadForReset j) := by
  have h : EngineOnly s ((s.recordRows j.rowsDone).departHead true) :=
    (PortsOnly.recordRows s j.rowsDone).engine.trans (.depart _ _ _ _)
  unfold State.stopHeadForReset
  exact h.trans rfl

/-- PACK's look at what is left to move. -/
theorem EngineOnly.packProceed (s : State) (j : Job) : EngineOnly s (s.packProceed j).1 := by
  unfold State.packProceed
  split
  · exact .refl s
  · have h := (EngineOnly.windUpPack s).trans (.endHead s.windUpPack j .ok)
    exact h

/-- PACK's look at the layout lock. -/
theorem EngineOnly.packTryLock (s : State) (j : Job) : EngineOnly s (s.packTryLock j).1 := by
  unfold State.packTryLock
  split
  · exact EngineOnly.trans (t := { s with layoutLock := true }) rfl (.packProceed _ _)
  · exact .refl s

/-- PACK's lock leaves the queue. -/
theorem State.releaseLayoutLock_jobs (s : State) : s.releaseLayoutLock.jobs = s.jobs := by
  unfold State.releaseLayoutLock
  split
  · exact (PortsOnly.wakePorts _ _).keeps.2.2.2.1
  · rfl

/-- PACK's releases and its lock leave the queue. -/
theorem State.windUpPack_jobs (s : State) : s.windUpPack.jobs = s.jobs := by
  have h := TableOnly.releaseDuePlanes s
  have e : s.windUpPack.jobs = s.releaseDuePlanes.jobs := State.releaseLayoutLock_jobs _
  rw [e]
  generalize s.releaseDuePlanes = t at h
  rw [h]

/-- A job that its examination ends has left the queue, and the jobs behind it stand as they did. -/
theorem State.examineJob_jobs (s : State) (j : Job) (h : (s.examineJob j).2 = true) :
    (s.examineJob j).1.jobs = s.jobs.tail := by
  unfold State.examineJob at h ⊢
  split at h
  · cases h
  · cases h
  · cases h
  · next font _ _ _ _ _ _ =>
    unfold State.examineText at h ⊢
    by_cases hu : (s.font font).state = .undefined
    · rw [if_pos hu]; exact State.endHead_jobs s _ _
    · rw [if_neg hu] at h ⊢
      dsimp only at h ⊢
      split
      · exact State.endHead_jobs s _ _
      · next ht => rw [ht] at h; cases h
  · rw [State.endHead_jobs, (PortsOnly.showPort s _ _).keeps.2.2.2.1]
  · unfold State.packTryLock State.packProceed at h ⊢
    split
    · next hc =>
      rw [if_pos hc] at h
      split
      · next hm => rw [hm] at h; cases h
      · rw [State.endHead_jobs, State.windUpPack_jobs]
        rfl
    · next hc => rw [if_neg hc] at h; cases h
  · exact State.endHead_jobs s _ _

/-- The examination of a head that is not running: its own, and, when that ends it, the examination of the next. -/
theorem State.examine_cons {s : State} {j : Job} {rest : List Job} (hj : s.jobs = j :: rest) (hr : j.running = false) :
    s.examine = if (s.examineJob j).2 = true then (s.examineJob j).1.examine else (s.examineJob j).1 := by
  have e : s.examine = if (s.examineJob j).2 = true then examineFor rest.length (s.examineJob j).1
      else (s.examineJob j).1 := by
    unfold State.examine
    rw [hj]
    show examineFor (rest.length + 1) s = _
    rw [examineFor, hj]
    simp [hr]
  rw [e]
  by_cases h : (s.examineJob j).2 = true
  · rw [if_pos h, if_pos h]
    unfold State.examine
    rw [State.examineJob_jobs s j h, hj]
    rfl
  · rw [if_neg h, if_neg h]

/-- The examination of an empty queue. -/
theorem State.examine_nil {s : State} (hj : s.jobs = []) : s.examine = s := by
  unfold State.examine
  rw [hj]
  rfl

/-- The examination of a head that is running. -/
theorem State.examine_running {s : State} {j : Job} {rest : List Job} (hj : s.jobs = j :: rest)
    (hr : j.running = true) : s.examine = s := by
  unfold State.examine
  rw [hj]
  show examineFor (rest.length + 1) s = s
  rw [examineFor, hj]
  simp [hr]

/-- The examination of one job. -/
theorem EngineOnly.examineJob (s : State) (j : Job) : EngineOnly s (s.examineJob j).1 := by
  have drawn : ∀ h r f, EngineOnly s (s.activateOrHold j h r f) := by
    intro h r f
    unfold State.activateOrHold
    split <;> rfl
  unfold State.examineJob
  split
  · exact drawn _ _ _
  · exact drawn _ _ _
  · dsimp only [State.examineLoad]
    split
    · rfl
    · unfold State.loadProceed
      split <;> rfl
  · unfold State.examineText
    split
    · exact .endHead _ _ _
    · dsimp only
      split
      · exact .endHead _ _ _
      · exact drawn _ _ _
  · exact (PortsOnly.showPort s _ _).engine.trans (.endHead _ _ _)
  · exact EngineOnly.trans (t := s.setHead { j with state := .active }) rfl (.packTryLock _ _)
  · exact .endHead _ _ _

/-- The examination of the head and of those behind it. -/
theorem EngineOnly.examineFor (n : Nat) (s : State) : EngineOnly s (examineFor n s) := by
  induction n generalizing s with
  | zero => exact .refl s
  | succ n ih =>
    unfold Machine.examineFor
    split
    · exact .refl s
    · split
      · exact .refl s
      · dsimp only
        split
        · exact (EngineOnly.examineJob s _).trans (ih _)
        · exact .examineJob s _

/-- The examination of the head. -/
theorem EngineOnly.examine (s : State) : EngineOnly s s.examine := .examineFor _ s

/-- The second look of a waiting PACK. -/
theorem EngineOnly.retryPack (s : State) : EngineOnly s s.retryPack := by
  unfold State.retryPack
  split
  · exact .refl s
  · split
    · dsimp only
      split
      · exact (EngineOnly.packTryLock s _).trans (.examine _)
      · exact .packTryLock s _
    · exact .refl s

/-- The second look at the head. -/
theorem EngineOnly.recheckHead (s : State) : EngineOnly s s.recheckHead := by
  unfold State.recheckHead
  split
  · exact .retryPack s
  · exact .examine s

/-- What a change within the engine leaves. -/
theorem EngineOnly.keeps {s t : State} (h : EngineOnly s t) :
    t.mem = s.mem ∧ t.patterns = s.patterns ∧ t.jobCounter = s.jobCounter ∧ t.fonts = s.fonts ∧
      t.glyphs = s.glyphs ∧ t.link = s.link ∧ t.busyLineA = s.busyLineA ∧ t.busyLineB = s.busyLineB ∧
      t.powerOns = s.powerOns ∧ t.pending = s.pending := by
  unfold EngineOnly at h
  rw [h]
  exact ⟨rfl, rfl, rfl, rfl, rfl, rfl, rfl, rfl, rfl, rfl⟩

end Sys2Proof.Machine
end

