-- ==== Sys2Proof/Laws/Requests.lean ====
section
/-! SUPPORT. How a request is taken and answered: a request handler that is free takes the earliest HELD slot, its body
goes to the kind's own rule, and the reply goes into that slot. -/

namespace Sys2Proof.Machine

/-- A change to the first element that satisfies a test. -/
theorem updateFirst_split {α : Type} {t : α → Bool} {f : α → α} {front back : List α} {a : α}
    (hf : ∀ x ∈ front, t x = false) (ha : t a = true) :
    updateFirst t f (front ++ a :: back) = front ++ f a :: back := by
  induction front with
  | nil => simp [updateFirst, ha]
  | cons x front ih =>
    have hx := hf x List.mem_cons_self
    simp [updateFirst, hx, ih (fun y hy => hf y (List.mem_cons_of_mem x hy))]

/-- A change to the first element that satisfies a test, where none does. -/
theorem updateFirst_none {α : Type} {t : α → Bool} {f : α → α} {l : List α} (h : ∀ x ∈ l, t x = false) :
    updateFirst t f l = l := by
  induction l with
  | nil => rfl
  | cons x l ih =>
    simp [updateFirst, h x List.mem_cons_self, ih (fun y hy => h y (List.mem_cons_of_mem x hy))]

/-- The first element that satisfies a test, where it is known. -/
theorem find?_split {α : Type} {t : α → Bool} {front back : List α} {a : α} (hf : ∀ x ∈ front, t x = false)
    (ha : t a = true) : (front ++ a :: back).find? t = some a := by
  induction front with
  | nil => simp [ha]
  | cons x front ih =>
    simp [hf x List.mem_cons_self, ih (fun y hy => hf y (List.mem_cons_of_mem x hy))]

/-- The state with the request's slot in hand, before its rule has been carried out. -/
def State.taken (s : State) (kind tag : Byte) (body : List Byte) (before after : List Slot) : State :=
  { s with
    link := { s.link with
      slots := before ++ { tag := tag, kind := kind, inHand := true, content := .held body } :: after } }

variable {s : State} {kind tag : Byte} {body : List Byte} {before after : List Slot}

/-- The handler's view of the next request. -/
theorem NextRequest.found (h : NextRequest s kind tag body before after) (t : Byte → Bool) :
    s.link.nextRequest t = if t kind = true then some body else none := by
  unfold Link.nextRequest
  rw [h.free, h.slots, find?_split h.noneEarlier rfl]

/-- Taking the next request in hand. -/
theorem NextRequest.takeRequest (h : NextRequest s kind tag body before after) :
    s.takeRequest = s.taken kind tag body before after := by
  unfold State.takeRequest State.taken
  rw [h.slots, updateFirst_split h.noneEarlier rfl]

/-- The next request is carried out by its kind's rule, and the transmitter then chooses. -/
theorem NextRequest.serve (h : NextRequest s kind tag body before after) (f : List Byte → State → State) :
    s.serve kind f = (f body (s.taken kind tag body before after)).transmit := by
  unfold State.serve State.serveWhere
  rw [h.found, if_pos (by simp), h.takeRequest]

/-- The next request, where its kind satisfies the test of a rule over kinds. -/
theorem NextRequest.serveWhere (h : NextRequest s kind tag body before after) (t : Byte → Bool) (ht : t kind = true)
    (f : List Byte → State → State) :
    s.serveWhere t f = (f body (s.taken kind tag body before after)).transmit := by
  unfold State.serveWhere
  rw [h.found, if_pos ht, h.takeRequest]

/-- A reply written while a slot is in hand goes into that slot and no other. -/
theorem answer_eq {t : State} {c : SlotContent} (r : Reply) (hn : ∀ sl ∈ before ++ after, sl.inHand = false)
    (hs : t.link.slots = before ++ { tag := tag, kind := kind, inHand := true, content := c } :: after) :
    t.answer r = t.replied kind tag r before after := by
  have keep : ∀ l : List Slot, (∀ sl ∈ l, sl.inHand = false) → l.map (Slot.answer r) = l := by
    intro l hl
    induction l with
    | nil => rfl
    | cons sl l ih =>
      rw [List.map_cons, ih (fun x hx => hl x (List.mem_cons_of_mem sl hx))]
      simp [Slot.answer, hl sl List.mem_cons_self]
  unfold State.answer State.replied
  rw [hs, List.map_append, List.map_cons, keep before (fun sl h => hn sl (List.mem_append_left _ h)),
    keep after (fun sl h => hn sl (List.mem_append_right _ h))]
  rfl

/-- The reply of a rule that leaves the slots alone. -/
theorem NextRequest.answer (h : NextRequest s kind tag body before after) (r : Reply) {t : State}
    (ht : t.link = (s.taken kind tag body before after).link) : t.answer r = t.replied kind tag r before after :=
  answer_eq r h.noneInHand (by rw [ht]; rfl)

/-- The reply of a rule that changes nothing else. -/
theorem NextRequest.answerAtOnce (h : NextRequest s kind tag body before after) (r : Reply) :
    (s.taken kind tag body before after).answer r = s.replied kind tag r before after := by
  rw [h.answer r rfl]; rfl

/-- A reply of a status alone, of a rule that changes nothing else. -/
theorem NextRequest.refuse (h : NextRequest s kind tag body before after) (st : Status) :
    (s.taken kind tag body before after).refuse st =
      s.replied kind tag { status := st, items := [] } before after :=
  h.answerAtOnce _

/-- The handler stays occupied with the request in hand. -/
theorem taken_occupy (w : Work) :
    (s.taken kind tag body before after).occupy w = s.working kind tag body w before after := rfl

/-- A request of a fixed length, with a body of that length. -/
theorem fixedLength_eq {n : Nat} (f : List Byte → State → State) (t : State) (h : body.length = n) :
    fixedLength n f body t = f body t := if_pos h

/-- A request of a fixed length, with a body of another length. -/
theorem fixedLength_ne {n : Nat} (f : List Byte → State → State) (t : State) (h : ¬ body.length = n) :
    fixedLength n f body t = t.refuse .badLength := if_neg h

/-- The next request of a fixed length, with a body of that length. -/
theorem NextRequest.serveFixed (h : NextRequest s kind tag body before after) (n : Nat) (hl : body.length = n)
    (f : List Byte → State → State) :
    s.serve kind (fixedLength n f) = (f body (s.taken kind tag body before after)).transmit := by
  rw [h.serve, fixedLength_eq f _ hl]

/-- Where the handler has no next request of a kind, the command of that kind changes nothing (log entry 1). -/
theorem serveWhere_none {t : Byte → Bool} (h : s.link.nextRequest t = none) (f : List Byte → State → State) :
    s.serveWhere t f = s := by
  unfold State.serveWhere; rw [h]

/-- All that carrying out a request can do: nothing, or the kind's rule on the state with a slot in hand. -/
theorem serveWhere_cases (s : State) (t : Byte → Bool) (f : List Byte → State → State) :
    (s.serveWhere t f = s) ∨
      ∃ b, s.link.work = none ∧ s.serveWhere t f = (f b s.takeRequest).transmit := by
  unfold State.serveWhere
  split
  · exact .inl rfl
  · next b hb =>
    refine .inr ⟨b, ?_, rfl⟩
    unfold Link.nextRequest at hb
    split at hb
    · assumption
    · cases hb

/-! ## What taking a request in hand leaves -/

@[simp] theorem State.taken_mem : (s.taken kind tag body before after).mem = s.mem := rfl
@[simp] theorem State.taken_freeList : (s.taken kind tag body before after).freeList = s.freeList := rfl
@[simp] theorem State.taken_planes : (s.taken kind tag body before after).planes = s.planes := rfl
@[simp] theorem State.taken_layoutLock : (s.taken kind tag body before after).layoutLock = s.layoutLock := rfl
@[simp] theorem State.taken_patterns : (s.taken kind tag body before after).patterns = s.patterns := rfl
@[simp] theorem State.taken_jobs : (s.taken kind tag body before after).jobs = s.jobs := rfl
@[simp] theorem State.taken_jobCounter : (s.taken kind tag body before after).jobCounter = s.jobCounter := rfl
@[simp] theorem State.taken_writeHold : (s.taken kind tag body before after).writeHold = s.writeHold := rfl
@[simp] theorem State.taken_staging : (s.taken kind tag body before after).staging = s.staging := rfl
@[simp] theorem State.taken_dataTimer : (s.taken kind tag body before after).dataTimer = s.dataTimer := rfl
@[simp] theorem State.taken_fonts : (s.taken kind tag body before after).fonts = s.fonts := rfl
@[simp] theorem State.taken_glyphs : (s.taken kind tag body before after).glyphs = s.glyphs := rfl
@[simp] theorem State.taken_portA : (s.taken kind tag body before after).portA = s.portA := rfl
@[simp] theorem State.taken_portB : (s.taken kind tag body before after).portB = s.portB := rfl
@[simp] theorem State.taken_bus : (s.taken kind tag body before after).bus = s.bus := rfl
@[simp] theorem State.taken_notices : (s.taken kind tag body before after).notices = s.notices := rfl
@[simp] theorem State.taken_work : (s.taken kind tag body before after).link.work = s.link.work := rfl
@[simp] theorem State.taken_plane (h : Nat) : (s.taken kind tag body before after).plane h = s.plane h := rfl
@[simp] theorem State.taken_font (i : Nat) : (s.taken kind tag body before after).font i = s.font i := rfl
@[simp] theorem State.taken_port (p : Port) : (s.taken kind tag body before after).port p = s.port p := by
  cases p <;> rfl
@[simp] theorem State.taken_packActive : (s.taken kind tag body before after).packActive = s.packActive := rfl
@[simp] theorem State.taken_patternEntry (i : Nat) :
    (s.taken kind tag body before after).patternEntry i = s.patternEntry i := rfl

end Sys2Proof.Machine
end

