-- ==== Sys2Proof/Laws/Handler.lean ====
section
/-! SUPPORT. The ports and the job engine look at the host link for one thing only, the work that occupies the request
handler: with the same work in hand they do the same whatever else the link holds, so a request's slot can be taken in
hand, and its reply written, before or after they have run. -/

namespace Sys2Proof.Machine

/-- The state with another link. -/
def State.withLink (s : State) (l : Link) : State := { s with link := l }

/-- An operation that looks at no more of the link than the work in hand, and leaves the link as it is. -/
def SeesWorkOnly (f : State → State) : Prop :=
  ∀ (s : State) (l : Link), l.work = s.link.work → f (s.withLink l) = (f s).withLink l ∧ (f s).link = s.link

/-- Nothing done. -/
theorem SeesWorkOnly.id : SeesWorkOnly (fun s => s) := fun _ _ _ => ⟨rfl, rfl⟩

/-- One operation after another. -/
theorem SeesWorkOnly.comp {f g : State → State} (hg : SeesWorkOnly g) (hf : SeesWorkOnly f) :
    SeesWorkOnly (fun s => g (f s)) := by
  intro s l h
  obtain ⟨h1, h2⟩ := hf s l h
  obtain ⟨h3, h4⟩ := hg (f s) l (by rw [h, h2])
  exact ⟨by show g (f (s.withLink l)) = _; rw [h1]; exact h3, by show (g (f s)).link = _; rw [h4, h2]⟩

/-- A choice made by a test that does not look at the link beyond the work in hand. -/
theorem SeesWorkOnly.ite {c : State → Prop} [∀ s, Decidable (c s)] {f g : State → State}
    (hc : ∀ (s : State) (l : Link), l.work = s.link.work → (c (s.withLink l) ↔ c s)) (hf : SeesWorkOnly f)
    (hg : SeesWorkOnly g) : SeesWorkOnly (fun s => if c s then f s else g s) := by
  intro s l h
  dsimp only
  by_cases hs : c s
  · rw [if_pos hs, if_pos ((hc s l h).mpr hs)]; exact hf s l h
  · rw [if_neg hs, if_neg (fun k => hs ((hc s l h).mp k))]; exact hg s l h

/-- A fold of such operations. -/
theorem SeesWorkOnly.foldl {α : Type} {f : State → α → State} (hf : ∀ a, SeesWorkOnly (fun s => f s a)) (xs : List α) :
    SeesWorkOnly (fun s => xs.foldl f s) := by
  induction xs with
  | nil => exact .id
  | cons a xs ih => exact SeesWorkOnly.comp ih (hf a)

/-! ## The ports and the bus -/

/-- A port's record after the examination of its start. -/
theorem examinedPort_withLink (s : State) (l : Link) (p : Port) : (s.withLink l).examinedPort p = s.examinedPort p := by
  cases p <;> rfl

/-- A grant to a port. -/
theorem SeesWorkOnly.grantPort (p : Port) : SeesWorkOnly (fun s => s.grantPort p) := by
  intro s l _
  cases p <;> exact ⟨rfl, rfl⟩

/-- The claimant the arbiter chooses. -/
theorem chosen_withLink (s : State) (l : Link) (h : l.work = s.link.work) : (s.withLink l).chosen = s.chosen := by
  have hq : (s.withLink l).queryWaits = s.queryWaits := by
    show (match l.work with | some (.query _) => true | _ => false) = _
    rw [h]; rfl
  have hc : ∀ p, (s.withLink l).claims p = s.claims p := by
    intro p
    show (_ && !decide (l.work = some .fullWaiting)) = _
    rw [h]; cases p <;> rfl
  unfold State.chosen
  rw [hq, hc, hc]
  rfl

/-- The arbiter, any number of turns. -/
theorem SeesWorkOnly.arbitrateFor (n : Nat) : SeesWorkOnly (fun s => arbitrateFor n s) := by
  induction n with
  | zero => exact .id
  | succ n ih =>
    intro s l h
    have hb : (s.withLink l).bus = s.bus := rfl
    dsimp only
    unfold Machine.arbitrateFor
    rw [hb, chosen_withLink s l h]
    cases s.bus.owner with
    | port _ => exact ⟨rfl, rfl⟩
    | query => exact ⟨rfl, rfl⟩
    | none =>
      cases s.chosen with
      | none => exact ⟨rfl, rfl⟩
      | query => exact ⟨rfl, rfl⟩
      | port p => exact (SeesWorkOnly.comp ih (SeesWorkOnly.grantPort p)) s l h

/-- The arbiter. -/
theorem SeesWorkOnly.arbitrate : SeesWorkOnly State.arbitrate := SeesWorkOnly.arbitrateFor 3

/-- The bus given back. -/
theorem SeesWorkOnly.giveBack : SeesWorkOnly State.giveBack :=
  SeesWorkOnly.comp (g := State.arbitrate) (f := fun s => { s with bus := { s.bus with owner := .none } })
    .arbitrate (fun _ _ _ => ⟨rfl, rfl⟩)

/-- A claim. -/
theorem SeesWorkOnly.claimBus (p : Port) : SeesWorkOnly (fun s => s.claimBus p) :=
  SeesWorkOnly.comp (g := State.arbitrate) (f := fun s => s.enterBusWait p) .arbitrate
    (fun _ _ _ => by cases p <;> exact ⟨rfl, rfl⟩)

/-- The ports of a wait claim again. -/
theorem SeesWorkOnly.wakePorts (w : Wait) : SeesWorkOnly (fun s => s.wakePorts w) := by
  have one : ∀ p, SeesWorkOnly (fun s => s.wakeFrom w p) := by
    intro p
    refine SeesWorkOnly.ite (c := fun s => (s.port p).waits w = true) ?_ ?_ .id
    · intro s l _; cases p <;> exact Iff.rfl
    · intro s l _; cases p <;> exact ⟨rfl, rfl⟩
  exact SeesWorkOnly.comp .arbitrate (SeesWorkOnly.comp (one .b) (one .a))

/-- The damage of a job's end. -/
theorem SeesWorkOnly.recordRows (n : Nat) : SeesWorkOnly (fun s => s.recordRows n) := by
  have one : ∀ h r p, SeesWorkOnly (fun s => s.damagePort h r p) := by
    intro h r p
    refine SeesWorkOnly.ite (c := fun s => (s.plane h).bound p = true) ?_ ?_ .id
    · intro s l _; exact Iff.rfl
    · intro s l _; cases p <;> exact ⟨rfl, rfl⟩
  intro s l h
  dsimp only
  unfold State.recordRows
  have hw : (s.withLink l).writeHold = s.writeHold := rfl
  rw [hw]
  cases s.writeHold with
  | none => exact ⟨rfl, rfl⟩
  | some w =>
    dsimp only
    split
    · exact ⟨rfl, rfl⟩
    · exact (SeesWorkOnly.comp (one _ _ .b) (one _ _ .a)) s l h

/-- What a SHOW does. -/
theorem showPort_withLink (s : State) (l : Link) (h : l.work = s.link.work) (p : Port) (f : Bool) :
    (s.withLink l).showPort p f = ((s.showPort p f).1.withLink l, (s.showPort p f).2) ∧
      (s.showPort p f).1.link = s.link := by
  have hp : (s.withLink l).port p = s.port p := by cases p <;> rfl
  have set : ∀ r, (s.withLink l).setPort p r = (s.setPort p r).withLink l := by intro r; cases p <;> rfl
  have claim : ∀ r, ((s.setPort p r).withLink l).claimBus p = ((s.setPort p r).claimBus p).withLink l ∧
      ((s.setPort p r).claimBus p).link = (s.setPort p r).link :=
    fun r => (SeesWorkOnly.claimBus p) (s.setPort p r) l (by rw [h]; simp)
  unfold State.showPort
  rw [hp]
  dsimp only
  split
  · exact ⟨rfl, rfl⟩
  · split
    · exact ⟨rfl, rfl⟩
    · rw [set, (claim _).1]
      exact ⟨rfl, by rw [(claim _).2]; simp⟩
  · rw [set]; exact ⟨rfl, by simp⟩
  · rw [set]; exact ⟨rfl, by simp⟩
  · rw [set]; exact ⟨rfl, by simp⟩
  · exact ⟨rfl, rfl⟩

/-! ## The job engine -/

/-- A plane's record. -/
theorem SeesWorkOnly.setPlane (h : Nat) (p : State → Plane) (hp : ∀ s l, p (State.withLink s l) = p s) :
    SeesWorkOnly (fun s => s.setPlane h (p s)) := by
  intro s l _
  dsimp only
  rw [hp]
  unfold State.setPlane
  split <;> exact ⟨rfl, rfl⟩

/-- A release with its notice. -/
theorem SeesWorkOnly.releaseWithNotice (h : Nat) : SeesWorkOnly (fun s => s.releaseWithNotice h) := by
  intro s l _
  dsimp only
  unfold State.releaseWithNotice State.releasePlane State.setPlane
  split <;> exact ⟨rfl, rfl⟩

/-- A departure. -/
theorem SeesWorkOnly.depart (gone kept : List Job) (r : Bool) : SeesWorkOnly (fun s => s.depart gone kept r) := by
  have low : SeesWorkOnly (fun s => s.lowerRefs gone) :=
    SeesWorkOnly.foldl (fun h => .setPlane h _ (fun _ _ => rfl)) _
  have refs : SeesWorkOnly (fun s => s.endReferences gone) := by
    refine SeesWorkOnly.foldl (fun h => ?_) _
    refine SeesWorkOnly.ite (c := fun s => (s.plane h).readyToRelease = true) (fun _ _ _ => Iff.rfl) ?_ .id
    exact SeesWorkOnly.ite (c := fun s => s.packActive = true) (fun _ _ _ => Iff.rfl)
      (.setPlane h _ (fun _ _ => rfl)) (.releaseWithNotice h)
  intro s l h
  cases r
  · obtain ⟨h1, h2⟩ := (SeesWorkOnly.comp refs low) s l h
    dsimp only at h1 h2
    refine ⟨?_, ?_⟩
    · show ({ ((s.withLink l).lowerRefs gone).endReferences gone with jobs := kept, staging := _ } : State) = _
      rw [h1]; rfl
    · exact h2
  · obtain ⟨h1, h2⟩ := low s l h
    dsimp only at h1 h2
    refine ⟨?_, ?_⟩
    · show ({ (s.withLink l).lowerRefs gone with jobs := kept, staging := _ } : State) = _
      rw [h1]; rfl
    · exact h2

/-- The departure of the head. -/
theorem SeesWorkOnly.departHead (r : Bool) : SeesWorkOnly (fun s => s.departHead r) :=
  fun s l h => (SeesWorkOnly.depart (s.jobs.take 1) s.jobs.tail r) s l h

/-- The write hold released. -/
theorem SeesWorkOnly.releaseWriteHold : SeesWorkOnly State.releaseWriteHold := by
  intro s l h
  unfold State.releaseWriteHold
  have hw : (s.withLink l).writeHold = s.writeHold := rfl
  rw [hw]
  cases s.writeHold with
  | none => exact ⟨rfl, rfl⟩
  | some w =>
    exact (SeesWorkOnly.comp (.wakePorts .hold)
      (f := fun t => { t with writeHold := none }) (fun _ _ _ => ⟨rfl, rfl⟩)) s l h

/-- Rows recorded, hold released, head departed, data timer stopped: the part of a job's end and of its stop that
they share. -/
theorem SeesWorkOnly.leave (n : Nat) : SeesWorkOnly
    (fun s => { (s.recordRows n).releaseWriteHold.departHead false with dataTimer := .stopped }) :=
  SeesWorkOnly.comp (f := fun s => (s.recordRows n).releaseWriteHold.departHead false)
    (g := fun s => { s with dataTimer := .stopped }) (fun _ _ _ => ⟨rfl, rfl⟩)
    (SeesWorkOnly.comp (.departHead false) (SeesWorkOnly.comp .releaseWriteHold (.recordRows n)))

/-- The end of the head. -/
theorem SeesWorkOnly.endHead (j : Job) (st : Status) : SeesWorkOnly (fun s => s.endHead j st) := by
  refine SeesWorkOnly.comp (f := fun s => { (s.recordRows j.rowsDone).releaseWriteHold.departHead false with dataTimer := .stopped })
    (g := fun s => s.notifyEnd j st) ?_ (.leave _)
  intro s l _
  dsimp only
  unfold State.notifyEnd
  split <;> exact ⟨rfl, rfl⟩

/-- PACK's releases. -/
theorem SeesWorkOnly.releaseDuePlanes : SeesWorkOnly State.releaseDuePlanes :=
  SeesWorkOnly.foldl (f := fun t h => if (t.plane h).releaseDue = true then t.releaseWithNotice h else t)
    (fun h => SeesWorkOnly.ite (c := fun s => (s.plane h).releaseDue = true) (f := fun s => s.releaseWithNotice h)
      (g := fun s => s) (fun _ _ _ => Iff.rfl) (.releaseWithNotice h) .id) allHandles

/-- PACK's lock given up. -/
theorem SeesWorkOnly.releaseLayoutLock : SeesWorkOnly State.releaseLayoutLock :=
  SeesWorkOnly.ite (c := fun s => s.layoutLock = true) (f := fun s => State.wakePorts { s with layoutLock := false } .lock)
    (g := fun s => s) (fun _ _ _ => Iff.rfl)
    (SeesWorkOnly.comp (.wakePorts .lock) (f := fun t => { t with layoutLock := false }) (fun _ _ _ => ⟨rfl, rfl⟩)) .id

/-- PACK's releases and its lock. -/
theorem SeesWorkOnly.windUpPack : SeesWorkOnly State.windUpPack :=
  SeesWorkOnly.comp (g := State.releaseLayoutLock) (f := State.releaseDuePlanes) .releaseLayoutLock .releaseDuePlanes

/-- The stop of the head by CANCEL or FLUSH. -/
theorem SeesWorkOnly.stopHead (j : Job) : SeesWorkOnly (fun s => s.stopHead j) := by
  have leave := SeesWorkOnly.leave j.rowsDone
  have both := SeesWorkOnly.comp leave (f := State.windUpPack) .windUpPack
  intro s l h
  dsimp only
  unfold State.stopHead
  by_cases hp : j.body = .pack
  · rw [if_pos hp, if_pos hp]; exact both s l h
  · rw [if_neg hp, if_neg hp]; exact leave s l h

/-- A job's examination, and PACK's looks, that also answer whether the job has left the queue. -/
def SeesWorkOnlyFlag (f : State → State × Bool) : Prop :=
  ∀ (s : State) (l : Link), l.work = s.link.work →
    f (s.withLink l) = ((f s).1.withLink l, (f s).2) ∧ (f s).1.link = s.link

/-- An operation with a fixed answer. -/
theorem SeesWorkOnly.flag {f : State → State} (hf : SeesWorkOnly f) (b : Bool) :
    SeesWorkOnlyFlag (fun s => (f s, b)) := by
  intro s l h
  obtain ⟨h1, h2⟩ := hf s l h
  exact ⟨by dsimp only; rw [h1], h2⟩

/-- PACK's look at what is left to move. -/
theorem SeesWorkOnlyFlag.packProceed (j : Job) : SeesWorkOnlyFlag (fun s => s.packProceed j) := by
  intro s l h
  dsimp only
  unfold State.packProceed
  have hm : (s.withLink l).nextMove = s.nextMove := rfl
  rw [hm]
  cases s.nextMove with
  | some _ => exact ⟨rfl, rfl⟩
  | none => exact ((SeesWorkOnly.comp (.endHead j .ok) .windUpPack).flag true) s l h

/-- PACK's look at the layout lock. -/
theorem SeesWorkOnlyFlag.packTryLock (j : Job) : SeesWorkOnlyFlag (fun s => s.packTryLock j) := by
  intro s l h
  have hf : (s.withLink l).fillInProgress = s.fillInProgress := by
    show (match l.work with | some (.fill _ _) => true | _ => false) = _
    rw [h]; rfl
  dsimp only
  unfold State.packTryLock
  rw [hf]
  by_cases hc : s.layoutLock = false ∧ s.anyStreaming = false ∧ s.fillInProgress = false
  · rw [if_pos hc]
    have : (s.withLink l).layoutLock = false ∧ (s.withLink l).anyStreaming = false ∧ s.fillInProgress = false := hc
    rw [if_pos this]
    exact SeesWorkOnlyFlag.packProceed j { s with layoutLock := true } l h
  · rw [if_neg hc]
    have : ¬ ((s.withLink l).layoutLock = false ∧ (s.withLink l).anyStreaming = false ∧ s.fillInProgress = false) := hc
    rw [if_neg this]
    exact ⟨rfl, rfl⟩

/-- The examination of one job. -/
theorem SeesWorkOnlyFlag.examineJob (j : Job) : SeesWorkOnlyFlag (fun s => s.examineJob j) := by
  have drawn : ∀ (s : State) (l : Link) h r f,
      (s.withLink l).activateOrHold j h r f = (s.activateOrHold j h r f).withLink l ∧
        (s.activateOrHold j h r f).link = s.link := by
    intro s l h r f
    unfold State.activateOrHold
    have : (s.withLink l).readHeld h r = s.readHeld h r := rfl
    rw [this]
    split <;> exact ⟨rfl, rfl⟩
  intro s l h
  dsimp only
  unfold State.examineJob
  split
  · exact ⟨by rw [show (s.withLink l).patternCopy = s.patternCopy from rfl, (drawn s l _ _ _).1], (drawn s l _ _ _).2⟩
  · exact ⟨by
      rw [show (s.withLink l).patternCopy = s.patternCopy from rfl,
        show (s.withLink l).sourceRows = s.sourceRows from rfl, (drawn s l _ _ _).1], (drawn s l _ _ _).2⟩
  · dsimp only
    unfold State.examineLoad
    have hr : ∀ p r, (s.withLink l).readHeld p r = s.readHeld p r := fun _ _ => rfl
    rw [hr]
    split
    · exact ⟨rfl, rfl⟩
    · have hst : ∀ p r, ((s.withLink l).activate j p r nothingFixed).staging =
          (s.activate j p r nothingFixed).staging := fun _ _ => rfl
      have hrb : ∀ p w, (s.withLink l).rowByteCount p w = s.rowByteCount p w := fun _ _ => rfl
      unfold State.loadProceed
      rw [hst, hrb]
      split <;> exact ⟨rfl, rfl⟩
  · next d font px bl ink fn codes _ =>
    unfold State.examineText
    have hf : (s.withLink l).font font = s.font font := rfl
    have hp : (s.withLink l).plane d = s.plane d := rfl
    have hg : (s.withLink l).glyphs = s.glyphs := rfl
    rw [hf, hp, hg]
    split
    · exact ((SeesWorkOnly.endHead _ _).flag true) s l h
    · dsimp only
      split
      · exact ((SeesWorkOnly.endHead _ _).flag true) s l h
      · exact ⟨by rw [(drawn s l _ _ _).1], (drawn s l _ _ _).2⟩
  · next p f _ =>
    obtain ⟨h1, h2⟩ := showPort_withLink s l h p f
    obtain ⟨h3, h4⟩ := SeesWorkOnly.endHead j (s.showPort p f).2 (s.showPort p f).1 l (by rw [h2, h])
    dsimp only at h3 h4 ⊢
    rw [h1]
    exact ⟨by dsimp only; rw [h3], by rw [h4, h2]⟩
  · exact SeesWorkOnlyFlag.packTryLock { j with state := .active } (s.setHead { j with state := .active }) l h
  · exact ((SeesWorkOnly.endHead _ _).flag true) s l h

/-- The examination of the head and of those behind it. -/
theorem SeesWorkOnly.examineFor (n : Nat) : SeesWorkOnly (fun s => examineFor n s) := by
  induction n with
  | zero => exact .id
  | succ n ih =>
    intro s l h
    dsimp only
    unfold Machine.examineFor
    have hj : (s.withLink l).jobs = s.jobs := rfl
    rw [hj]
    cases s.jobs with
    | nil => exact ⟨rfl, rfl⟩
    | cons j rest =>
      dsimp only
      split
      · exact ⟨rfl, rfl⟩
      · obtain ⟨h1, h2⟩ := SeesWorkOnlyFlag.examineJob j s l h
        dsimp only at h1 h2
        rw [h1]
        dsimp only
        split
        · obtain ⟨h3, h4⟩ := ih (s.examineJob j).1 l (by rw [h2, h])
          exact ⟨h3, by rw [h4, h2]⟩
        · exact ⟨rfl, h2⟩

/-- The examination of the head. -/
theorem SeesWorkOnly.examine : SeesWorkOnly State.examine := fun s l h => SeesWorkOnly.examineFor s.jobs.length s l h

/-- The second look of a waiting PACK. -/
theorem SeesWorkOnly.retryPack : SeesWorkOnly State.retryPack := by
  intro s l h
  unfold State.retryPack
  have hj : (s.withLink l).jobs = s.jobs := rfl
  have hp : (s.withLink l).packActive = s.packActive := rfl
  rw [hj, hp]
  cases s.jobs with
  | nil => exact ⟨rfl, rfl⟩
  | cons j rest =>
    dsimp only
    split
    · obtain ⟨h1, h2⟩ := SeesWorkOnlyFlag.packTryLock j s l h
      dsimp only at h1 h2
      rw [h1]
      dsimp only
      split
      · obtain ⟨h3, h4⟩ := SeesWorkOnly.examine (s.packTryLock j).1 l (by rw [h2, h])
        exact ⟨h3, by rw [h4, h2]⟩
      · exact ⟨rfl, h2⟩
    · exact ⟨rfl, rfl⟩

/-- The second look at the head. -/
theorem SeesWorkOnly.recheckHead : SeesWorkOnly State.recheckHead := by
  intro s l h
  unfold State.recheckHead
  have hp : (s.withLink l).packActive = s.packActive := rfl
  rw [hp]
  split
  · exact SeesWorkOnly.retryPack s l h
  · exact SeesWorkOnly.examine s l h

/-! ## Requests and the engine -/

variable {s : State} {kind tag : Byte} {body : List Byte} {before after : List Slot}

/-- What the engine or the ports do with a request's slot in hand is what they do without it. -/
theorem SeesWorkOnly.taken {f : State → State} (hf : SeesWorkOnly f) :
    f (s.taken kind tag body before after) = (f s).taken kind tag body before after := by
  obtain ⟨h1, h2⟩ := hf s (s.taken kind tag body before after).link rfl
  have : f (s.taken kind tag body before after) = (f s).withLink (s.taken kind tag body before after).link := h1
  rw [this]
  unfold State.withLink State.taken
  rw [h2]

/-- The reply of a request whose rule is the engine's or the ports'. -/
theorem NextRequest.answerAfter (h : NextRequest s kind tag body before after) {f : State → State}
    (hf : SeesWorkOnly f) (r : Reply) :
    (f (s.taken kind tag body before after)).answer r = (f s).replied kind tag r before after := by
  rw [hf.taken, answer_eq r h.noneInHand rfl]
  rfl

end Sys2Proof.Machine
end

