-- ==== Sys2Proof/Laws/Memory.lean ====
section
/-! SUPPORT. The pixel store's content: every operation keeps its canonical form, and what a byte reads as after each. -/

namespace Sys2Proof.Machine

/-! ## Reading the list -/

/-- Reading an empty list gives nothing. -/
@[simp] theorem readCell_nil (a : Nat) : readCell [] a = none := rfl

/-- Reading past a first cell. -/
theorem readCell_cons (c : Host.Cell) (m : List Host.Cell) (a : Nat) :
    readCell (c :: m) a = if c.1 = a then some c.2 else readCell m a := by
  unfold readCell
  by_cases h : c.1 = a <;> simp [h]

/-- Reading two lists joined: the first decides where it lists the address. -/
theorem readCell_append (l m : List Host.Cell) (a : Nat) :
    readCell (l ++ m) a = (readCell l a).or (readCell m a) := by
  induction l with
  | nil => simp
  | cons c l ih =>
    rw [List.cons_append, readCell_cons, readCell_cons, ih]
    split <;> simp

/-- An address that no cell lists reads as nothing. -/
theorem readCell_eq_none {m : List Host.Cell} {a : Nat} (h : ∀ c ∈ m, ¬ c.1 = a) : readCell m a = none := by
  induction m with
  | nil => rfl
  | cons c m ih =>
    rw [readCell_cons, if_neg (h c List.mem_cons_self), ih (fun d hd => h d (List.mem_cons_of_mem c hd))]

/-- Reading the cells whose addresses satisfy a test. -/
theorem readCell_filter (m : List Host.Cell) (p : Nat → Bool) (a : Nat) :
    readCell (m.filter (fun c => p c.1)) a = if p a = true then readCell m a else none := by
  induction m with
  | nil => simp
  | cons c m ih =>
    by_cases hc : p c.1 = true
    · rw [List.filter_cons_of_pos (by simpa using hc), readCell_cons, readCell_cons, ih]
      by_cases ha : c.1 = a
      · subst ha; simp [hc]
      · simp [ha]
    · rw [List.filter_cons_of_neg (by simpa using hc), ih, readCell_cons]
      by_cases ha : c.1 = a
      · subst ha; simp [hc]
      · simp [ha]

/-- Reading cells at consecutive addresses. -/
theorem readCell_cellsAt (bs : List Byte) (a x : Nat) :
    readCell (cellsAt a bs) x = if a ≤ x then bs[x - a]? else none := by
  induction bs generalizing a with
  | nil => simp [cellsAt]
  | cons b bs ih =>
    rw [cellsAt, readCell_cons]
    by_cases h : a = x
    · simp [h]
    · rw [if_neg h, ih]
      by_cases hle : a ≤ x
      · have h1 : a + 1 ≤ x := by omega
        have h2 : x - a = (x - (a + 1)) + 1 := by omega
        rw [if_pos h1, if_pos hle, h2, List.getElem?_cons_succ]
      · have h1 : ¬ a + 1 ≤ x := by omega
        rw [if_neg h1, if_neg hle]

/-- Cells at consecutive addresses stand within their run. -/
theorem cellsAt_bounds {bs : List Byte} {a : Nat} {c : Host.Cell} (h : c ∈ cellsAt a bs) :
    a ≤ c.1 ∧ c.1 < a + bs.length := by
  induction bs generalizing a with
  | nil => simp [cellsAt] at h
  | cons b bs ih =>
    rw [cellsAt, List.mem_cons] at h
    rcases h with rfl | h
    · simp
    · have := ih h
      simp only [List.length_cons]
      omega

/-- Cells at consecutive addresses have the canonical form. -/
theorem cellsAt_wf (bs : List Byte) (a : Nat) : memoryWf (cellsAt a bs) := by
  induction bs generalizing a with
  | nil => exact List.Pairwise.nil
  | cons b bs ih =>
    refine List.pairwise_cons.mpr ⟨fun c hc => ?_, ih (a + 1)⟩
    have := (cellsAt_bounds hc).1
    show a < c.1
    omega

/-! ## Writing -/

/-- What a byte reads as after a write: the byte written, inside the run, and what it was outside it. -/
theorem readCell_writeCells (m : List Host.Cell) (a : Nat) (bs : List Byte) (x : Nat) :
    readCell (writeCells m a bs) x =
      if a ≤ x ∧ x < a + bs.length then bs[x - a]? else readCell m x := by
  unfold writeCells
  rw [readCell_append, readCell_append, readCell_cellsAt,
    readCell_filter m (fun k => decide (k < a)) x, readCell_filter m (fun k => decide (a + bs.length ≤ k)) x]
  by_cases h1 : x < a
  · have h2 : ¬ a ≤ x := by omega
    have h3 : ¬ a + bs.length ≤ x := by omega
    simp [h1, h2, h3]
  · have h2 : a ≤ x := by omega
    by_cases h3 : x < a + bs.length
    · have h4 : x - a < bs.length := by omega
      simp [h1, h2, h3, h4]
    · have h4 : a + bs.length ≤ x := by omega
      have h5 : bs.length ≤ x - a := by omega
      simp [h1, h2, h3, h4, h5]

/-- A write keeps the canonical form. -/
theorem writeCells_wf {m : List Host.Cell} (h : memoryWf m) (a : Nat) (bs : List Byte) :
    memoryWf (writeCells m a bs) := by
  unfold memoryWf writeCells
  rw [List.append_assoc]
  refine List.pairwise_append.mpr ⟨List.Pairwise.filter _ h, List.pairwise_append.mpr
    ⟨cellsAt_wf bs a, List.Pairwise.filter _ h, ?_⟩, ?_⟩
  · intro c hc d hd
    have := cellsAt_bounds hc
    simp only [List.mem_filter, decide_eq_true_eq] at hd
    omega
  · intro c hc d hd
    simp only [List.mem_filter, decide_eq_true_eq] at hc
    rcases List.mem_append.mp hd with hd | hd
    · have := cellsAt_bounds hd; omega
    · simp only [List.mem_filter, decide_eq_true_eq] at hd; omega

/-- A byte after a write of bytes. -/
theorem State.readByte_writeBytes (s : State) (a : Nat) (bs : List Byte) (x : Nat) :
    (s.writeBytes a bs).readByte x =
      if a ≤ x ∧ x < a + bs.length then bs.getD (x - a) 0 else s.readByte x := by
  unfold State.readByte
  rw [State.writeBytes_mem, readCell_writeCells]
  by_cases h : a ≤ x ∧ x < a + bs.length
  · have h4 : x - a < bs.length := by omega
    simp [h, h4]
  · simp [h]

/-! ## Copying an extent -/

@[simp] theorem State.bytesFrom_length (s : State) (a n : Nat) : (s.bytesFrom a n).length = n := by
  simp [State.bytesFrom]

/-- A byte of a run as it reads. -/
theorem State.bytesFrom_getD (s : State) (a n i : Nat) (h : i < n) : (s.bytesFrom a n).getD i 0 = s.readByte (a + i) := by
  simp [State.bytesFrom, h]

/-- A copy keeps the canonical form. -/
theorem State.copyBytes_wf {s : State} (h : memoryWf s.mem) (src dst n : Nat) :
    memoryWf (s.copyBytes src dst n).mem := writeCells_wf h dst _

/-- A byte after a copy: the byte copied there, inside the target, and what it was outside it. -/
theorem State.readByte_copyBytes (s : State) (src dst n x : Nat) :
    (s.copyBytes src dst n).readByte x =
      if dst ≤ x ∧ x < dst + n then s.readByte (src + (x - dst)) else s.readByte x := by
  unfold State.copyBytes
  rw [State.readByte_writeBytes, State.bytesFrom_length]
  by_cases h : dst ≤ x ∧ x < dst + n
  · rw [if_pos h, if_pos h, State.bytesFrom_getD _ _ _ _ (by omega)]
  · rw [if_neg h, if_neg h]

end Sys2Proof.Machine
end

