-- ==== Sys2Proof/WellFormed.lean ====
section
/-! DEFINITION. Which commands are well formed. -/

namespace Sys2Proof

/-- Every operand of a command is of a type that holds exactly the values the part can meet (a byte, a
level, one of the two ports, one of two orders), so every term of `Instr` is a command the part can be
given: there is no check to fail. Whether the event can OCCUR in a state is the meaning's own question
(log entry 1). -/
def wellFormed : Instr → Bool
  | .frameReceived _ => true
  | .frameGapTimeout => true
  | .linkBreak => true
  | .powerOnReset _ _ => true
  | .unknownKind => true
  | .ping => true
  | .reset => true
  | .engineReset => true
  | .fullReset => true
  | .ack => true
  | .resync => true
  | .newPlane => true
  | .newPlaneFillEnd => true
  | .freePlane => true
  | .planeInfo => true
  | .storeInfo => true
  | .setPattern => true
  | .getPattern => true
  | .submit => true
  | .cancel => true
  | .flush => true
  | .queueInfo => true
  | .data => true
  | .fillRowEnd => true
  | .blockRowEnd => true
  | .loadRowEnd => true
  | .textRowEnd => true
  | .dataTimeout => true
  | .extentMove => true
  | .newFont => true
  | .glyph => true
  | .dropFont => true
  | .fontInfo => true
  | .configurePanel => true
  | .releasePanel => true
  | .clearFault => true
  | .panelInfo => true
  | .query _ => true
  | .window => true
  | .pixels => true
  | .update _ => true
  | .abort _ => true
  | .busyLineFall _ => true
  | .busyTimerExpiry _ => true
  | .holdOffTimerExpiry _ => true
  | .replyFrameSent _ => true
  | .noticeFrameSent => true
  | .retransmissionTimerExpiry => true
  | .byteReceived _ _ => true
  | .busyLineRise _ => true

end Sys2Proof
end

