-- ==== Sys2Proof/Tests/Slice0.lean ====
section
/-! SUPPORT. Small tests of one step each, with results taken from the manual's worked examples and tables, and, for
every statement that has hypotheses, a witness: a concrete state and operands that meet them. -/

namespace Sys2Proof.Tests

open Sys2Proof Sys2Proof.Machine

-- The kernel evaluates one test after another: all at once they would take a thread each.
set_option Elab.async false

/-! ## Helpers -/

/-- The state with one request HELD in its intake slots and the handler free. -/
def ask (kind : Byte) (body : List Byte) (s : State) : State :=
  { s with
    link := { s.link with
      slots := [{ tag := 1, kind := kind, inHand := false, content := .held body }]
      work := none } }

/-- That request is the next one, whatever the state. -/
theorem ask_next (kind : Byte) (body : List Byte) (s : State) : NextRequest (ask kind body s) kind 1 body [] [] :=
  ⟨rfl, rfl, by simp, by simp⟩

/-- The state a command leaves. -/
def after (c : Instr) (s : State) : State :=
  match exec c s with
  | .next t => t
  | _ => s

/-- The reply a command leaves in the first slot. -/
def replyTo (c : Instr) (s : State) : Option Reply := (after c s).link.slots.head?.bind Slot.reply?

/-- A reply as its status code and its items. -/
def said (r : Option Reply) : Option (Nat × List Nat) := r.map (fun r => (r.status.code, r.items.map (·.toNat)))

/-! ## States -/

/-- A depth-1 plane of 16 × 4 pixels in block 0. -/
def smallPlane : Plane :=
  { state := .live, width := 16, height := 4, depth := 1, stride := 2, extent := ⟨0, 1⟩, refCount := 0,
    boundA := false, boundB := false, releaseDue := false }

/-- A depth-2 plane of 8 × 4 pixels in block 1. -/
def deepPlane : Plane :=
  { state := .live, width := 8, height := 4, depth := 2, stride := 2, extent := ⟨1, 1⟩, refCount := 0,
    boundA := false, boundB := false, releaseDue := false }

/-- Two planes, 1 of depth 1 and 2 of depth 2, with their bytes written, and the transmitter sending STARTED. -/
def twoPlanes : State :=
  State.writeBytes
    (State.setPlane (State.setPlane { State.reset with freeList := [⟨2, 1534⟩] } 1 smallPlane) 2 deepPlane)
    0 [0x00, 0x00, 0xFF, 0xFF, 0x00, 0x00, 0xFF, 0xFF]

/-- FILL (5, 0, 6, 1) of plane 1 with constant 1 (section 2.6.1), in a state. -/
def fillJob (st : JobState) (fn : BitVec 4) : Job :=
  { number := 1,
    body := .fill { dest := 1, rect := ⟨5, 0, 6, 1⟩, source := .const, constant := 1, pattern := 0, fn := fn },
    report := true, state := st, rowsDone := 0, fixed := nothingFixed }

/-- FILL of two rows of plane 1. -/
def longFill (st : JobState) : Job :=
  { fillJob st 10 with
    body := .fill { dest := 1, rect := ⟨0, 0, 8, 2⟩, source := .const, constant := 1, pattern := 0, fn := 10 } }

/-- BLOCK (0, 0, 16, 3) to (0, 1) within plane 1 (section 2.6.3). -/
def scrollJob (st : JobState) : Job :=
  { number := 1,
    body := .block { dest := 1, rect := ⟨0, 1, 16, 3⟩, source := .plane, constant := 0, pattern := 0, fn := 10 } 1 0 0,
    report := true, state := st, rowsDone := 0, fixed := nothingFixed }

/-- LOAD of two rows of 8 pixels of plane 1: 1 byte a row. -/
def loadJob (st : JobState) : Job :=
  { number := 1, body := .load 1 ⟨0, 0, 8, 2⟩ 10 2 0, report := false, state := st, rowsDone := 0,
    fixed := nothingFixed }

/-- TEXT of the code 49 on plane 1. -/
def textJob (st : JobState) : Job :=
  { number := 1, body := .text 1 0 0 2 1 10 [49], report := false, state := st, rowsDone := 0,
    fixed := nothingFixed }

/-- SHOW of port A. -/
def showJob (force : Bool) : Job :=
  { number := 1, body := .showPort .a force, report := false, state := .queued, rowsDone := 0, fixed := nothingFixed }

/-- PACK. -/
def packJob (st : JobState) : Job :=
  { number := 1, body := .pack, report := false, state := st, rowsDone := 0, fixed := nothingFixed }

/-- MARK. -/
def markJob (n : Nat) : Job :=
  { number := n, body := .mark 5, report := false, state := .queued, rowsDone := 0, fixed := nothingFixed }

/-- The two planes with jobs in the queue, the write hold of the first where it draws on plane 1, and plane 1's ref
count. -/
def withJobs (jobs : List Job) (hold : Option Hold) (s : State) : State :=
  State.setPlane { s with jobs := jobs, jobCounter := 40, writeHold := hold } 1
    { s.plane 1 with refCount := (jobs.filter (fun j => j.names 1)).length }

/-- A glyph of 3 × 2 pixels for the code 49, bitmap 101, 010 (section 6.2). -/
def smallGlyph : Glyph :=
  { font := 0, code := 49, width := 3, height := 2, advance := 4, xOffset := 0, yOffset := -2, offset := 0, length := 2 }

/-- A font in block 2 with that glyph. -/
def withFont (s : State) : State :=
  State.setFont
    { s.writeBytes 512 [0xA0, 0x40] with freeList := [⟨3, 1533⟩], glyphs := [smallGlyph] }
    0 { state := .defined, extent := ⟨2, 1⟩, usedBytes := 2, lineHeight := 12, fallback := 63, glyphCount := 1 }

/-- A port of 16 × 4 pixels on plane 1, AUTO, with no damage. -/
def smallPort (st : PortState) : PortRec :=
  { state := st, width := 16, height := 4, depth := 1, boundPlane := 1, ox := 0, oy := 0, mode := .auto,
    holdOff := 200, ghostLimit := 8, busyTimeout := 4000, driverId := 33, ghostCount := 3, damage := [],
    whole := false, force := false, again := false, holdOffTimer := .stopped,
    busyTimer := if st.timesBusy then .running 4000 else .stopped }

/-- Port A configured on plane 1. -/
def withPort (r : PortRec) (s : State) : State :=
  State.setPlane { s with portA := r } 1 { s.plane 1 with boundA := true }

/-- A refresh set of one rectangle. -/
def smallSet (w : Waveform) : RefreshSet := { waveform := w, rects := [⟨0, 0, 16, 2⟩] }

/-- Port A STREAMING a set and owning the bus. -/
def streaming (w : Waveform) (cmd : StreamCommand) (mark : Bool) (s : State) : State :=
  { withPort (smallPort (.streaming (smallSet w) cmd mark)) s with bus := { owner := .port .a, last := some .a } }

/-- Handler work, with its request in hand. -/
def inHand (w : Work) (kind : Byte) (body : List Byte) (s : State) : State :=
  { s with
    link := { s.link with
      slots := [{ tag := 1, kind := kind, inHand := true, content := .held body }]
      work := some w } }

/-- An answered RESET whose reset is due. -/
def due (k : ResetKind) (s : State) : State := { s with link := { s.link with slots := [], work := some (.resetDue k) } }

/-- The receiver in a state. -/
def receiving (r : Receiver) (s : State) : State := { s with link := { s.link with receiver := r } }

/-- The transmitter idle. -/
def idle (s : State) : State := { s with link := { s.link with sending := none } }

/-- A notice of MARK job 5. -/
def markEnd (st : NoticeState) (seq : Option (BitVec 8)) (again : Bool) : Notice :=
  { content := .jobEnd 5 .mark .ok 0 0 5, state := st, seq := seq, resendDue := again, lostMark := false }

/-- The notice unit of section 9.5 with J1 17 and J2 18 OUTSTANDING and J5 WAITING. -/
def window : State :=
  { State.reset with
    notices :=
      { queue := [markEnd .outstanding (some 17) false, markEnd .outstanding (some 18) false,
                  markEnd .waiting none false],
        counter := 19, state := .sending, retries := 0, timer := .running 1000, lost := false } }

/-! ## Tests -/

/-- Every command is well formed; no word spells one. -/
theorem test_wellFormed_query : wellFormed (.query 0xFF) = true := by decide
theorem test_no_word_spells_a_command : decodeTableWord 8 0x10 = none := by decide

/-- The check value of the CRC of R152 (polynomial 0x1021, initial value 0xFFFF) over "123456789". -/
theorem test_crc_check_value :
    crc16 [0x31, 0x32, 0x33, 0x34, 0x35, 0x36, 0x37, 0x38, 0x39] = 0x29B1 := by decide +kernel

/-- Table 10-1. -/
theorem test_power_on_rate : (after (.powerOnReset true false) State.reset).link.rate.bitsPerSecond = 460800 := by
  decide +kernel

/-- R152: a byte other than SYNC in HUNT is discarded with FRAMING set; LEN above 1024 too. -/
theorem test_byte_in_hunt : (after (.byteReceived 0x59 true) State.reset).link.flags.framing = true := by
  decide +kernel
theorem test_len_1025 :
    (after (.byteReceived 0x01 true) (receiving (.length (some 0x04)) State.reset)).link.receiver = .hunt := by
  decide +kernel

/-- R154: a good frame takes a slot; R153: a bad CHECK sets CHECKFAIL. -/
theorem test_frame_received :
    (after (.frameReceived ((crc16 [0, 0, 0x01, 0x07]).setWidth 8))
      (receiving (.check 0x01 0x07 [] (some ((crc16 [0, 0, 0x01, 0x07] >>> 8).setWidth 8))) State.reset)).link.slots =
      [{ tag := 7, kind := 1, inHand := false, content := .held [] }] := by decide +kernel
theorem test_frame_damaged :
    (after (.frameReceived ((crc16 [0, 0, 0x01, 0x07]).setWidth 8 + 1))
      (receiving (.check 0x01 0x07 [] (some ((crc16 [0, 0, 0x01, 0x07] >>> 8).setWidth 8))) State.reset)).link.flags =
      ⟨false, true, false⟩ := by decide +kernel

/-- R152: HUNT has no time limit. -/
theorem test_gap_in_hunt : (after .frameGapTimeout State.reset).link.flags.framing = false := by decide +kernel

/-- Section 9.5, last paragraph: the break puts STARTED (BREAK) 0 before the others. -/
theorem test_link_break :
    (after .linkBreak window).notices.queue.map (fun n => (n.content, n.seq)) =
      [(.started .linkBroken, some 0), (.jobEnd 5 .mark .ok 0 0 5, none), (.jobEnd 5 .mark .ok 0 0 5, none),
       (.jobEnd 5 .mark .ok 0 0 5, none)] := by decide +kernel

/-- R158, R160. -/
theorem test_unknown_kind : said (replyTo .unknownKind (ask 0x05 [] State.reset)) = some (0x10, []) := by decide +kernel
theorem test_ping : said (replyTo .ping (ask kindPing [1, 2] State.reset)) = some (0, [1, 2]) := by decide +kernel

/-- R161. -/
theorem test_reset_bad_value : said (replyTo .reset (ask kindReset [3] State.reset)) = some (0x12, []) := by
  decide +kernel
theorem test_engine_reset_keeps_live_planes :
    ((after .engineReset (due .engine (withJobs [longFill .queued] none twoPlanes))).plane 1) = smallPlane := by
  decide +kernel
theorem test_full_reset_empties_the_store :
    (after .fullReset (idle (due .full twoPlanes))).freeList = [⟨0, 1536⟩] := by decide +kernel

/-- Section 9.5: ACK 18 removes two; ACK of another number is BAD_ACK with the oldest and the count. -/
theorem test_ack : said (replyTo .ack (ask kindAck [18] window)) = some (0, [2, 0]) := by decide +kernel
theorem test_bad_ack : said (replyTo .ack (ask kindAck [19] window)) = some (0x48, [17, 2]) := by decide +kernel

/-- Section 9.5: RESYNC reports the oldest number. -/
theorem test_resync : said (replyTo .resync (ask kindResync [] window)) = some (0, [17, 3]) := by decide +kernel

/-- Section 9.5: the fourth expiry stalls the unit. -/
theorem test_fourth_expiry :
    (after .retransmissionTimerExpiry { window with notices := { window.notices with retries := 3 } }).notices.state =
      .stalled := by decide +kernel

/-- Section 1.6, step 1: the label takes handle 1 and 37 blocks. -/
theorem test_new_plane :
    ((after .newPlane (ask kindNewPlane [0x01, 0x28, 0, 128, 2, 0] State.reset)).plane 1).extent = ⟨0, 37⟩ := by
  decide +kernel
theorem test_new_plane_width_10 :
    said (replyTo .newPlane (ask kindNewPlane [0, 10, 0, 1, 1, 0] State.reset)) = some (0x12, []) := by decide +kernel

/-- R11: the reply at the end of the fill. -/
theorem test_new_plane_fill_end :
    said (replyTo .newPlaneFillEnd (inHand (.fill 2 3) kindNewPlane [] twoPlanes)) = some (0, [2, 0, 1, 0, 1]) := by
  decide +kernel
theorem test_fill_end_writes :
    (after .newPlaneFillEnd (inHand (.fill 2 2) kindNewPlane [] twoPlanes)).pixel 2 7 3 = 2 := by decide +kernel

/-- Section 1.6, steps 3 and 4: DEFERRED with the ref count; at once when it is 0. -/
theorem test_free_plane_deferred :
    said (replyTo .freePlane (ask kindFreePlane [1] (withJobs [longFill .active] none twoPlanes))) = some (1, [1]) := by
  decide +kernel
theorem test_free_plane :
    (after .freePlane (ask kindFreePlane [1] twoPlanes)).freeList = [⟨0, 1⟩, ⟨2, 1534⟩] := by decide +kernel

/-- R15, R16, R34, R95, R112. -/
theorem test_plane_info_25 : said (replyTo .planeInfo (ask kindPlaneInfo [25] State.reset)) = some (0x22, []) := by
  decide +kernel
theorem test_store_info :
    said (replyTo .storeInfo (ask kindStoreInfo [] State.reset)) = some (0, [6, 0, 6, 0, 1, 0, 0, 0, 0]) := by
  decide +kernel
theorem test_get_pattern_16 : said (replyTo .getPattern (ask kindGetPattern [16] State.reset)) = some (0x12, []) := by
  decide +kernel
theorem test_font_info :
    said (replyTo .fontInfo (ask kindFontInfo [0] (withFont twoPlanes))) =
      some (0, [0, 1, 0, 2, 1, 0, 2, 0, 254, 12, 0, 63, 0, 1, 0]) := by decide +kernel
theorem test_panel_info_2 : said (replyTo .panelInfo (ask kindPanelInfo [2] State.reset)) = some (0x12, []) := by
  decide +kernel

/-- Section 2.6.2: row 0 of the diagonal, 11000000 00000000, and its pixel (8, 0). -/
theorem test_set_pattern :
    patternPixel ((after .setPattern
      (ask kindSetPattern (4 :: 0xC0 :: List.replicate 15 0) State.reset)).patternEntry 4) 8 0 = 3 := by decide +kernel

/-- Table 11-7: a SUBMIT of a MARK; it is answered with its number and ends at once. -/
theorem test_submit_mark :
    said (replyTo .submit (ask kindSubmit [7, 0, 0, 0, 0, 5] State.reset)) = some (0, [0, 1]) := by decide +kernel
theorem test_submit_no_plane :
    said (replyTo .submit (ask kindSubmit [3, 0, 9, 0, 0, 0, 0, 0, 8, 0, 1, 10] State.reset)) = some (0x22, []) := by
  decide +kernel

/-- R52, R54, R55. -/
theorem test_cancel_active :
    (after .cancel (ask kindCancel [0, 1] (withJobs [longFill .active] none twoPlanes))).link.work =
      some (.cancel 1) := by decide +kernel
theorem test_flush_waiting :
    said (replyTo .flush (ask kindFlush [] (withJobs [longFill .held, markJob 7] none twoPlanes))) =
      some (0, [2, 0, 1, 0, 7]) := by decide +kernel
theorem test_queue_info_empty :
    said (replyTo .queueInfo (ask kindQueueInfo [] State.reset)) =
      some (0, [0, 0, 0, 0, 0, 0, 0, 0, 1, 0, 0, 0, 0]) := by decide +kernel

/-- Section 5.9.1: bytes beyond those wanted are TOO_LONG; accepted bytes leave the rest wanted. -/
theorem test_data_too_long :
    said (replyTo .data (ask kindData [0, 1, 9, 9, 9] (withJobs [loadJob .queued] none twoPlanes))) =
      some (0x33, [0, 1, 0, 0, 0, 2]) := by decide +kernel
theorem test_data :
    said (replyTo .data (ask kindData [0, 1, 9] (withJobs [loadJob .awaitingData] none twoPlanes))) =
      some (0, [0, 1, 0, 0, 0, 1, 15, 255]) := by decide +kernel

/-- Section 2.6.1: the bytes 00000111 and 11100000, and XOR over columns 5 and 8. -/
theorem test_fill_row :
    (let t := after .fillRowEnd (withJobs [fillJob .active 15] (some ⟨1, ⟨5, 0, 6, 1⟩⟩) twoPlanes)
    (t.readByte 0, t.readByte 1)) = (0x07, 0xE0) := by decide +kernel
theorem test_fill_row_xor :
    (let t := after .fillRowEnd
      ((withJobs [fillJob .active 6] (some ⟨1, ⟨5, 0, 6, 1⟩⟩) twoPlanes).writeBytes 0 [0x04, 0x80])
    (t.readByte 0, t.readByte 1)) = (0x03, 0x60) := by decide +kernel

/-- Section 2.6.3: row 1 takes the 0 of row 0, and the write hold stays. -/
theorem test_block_row :
    (let s := withJobs [scrollJob .queued] none twoPlanes
    (after .blockRowEnd s.examine).readByte 2) = 0x00 := by decide +kernel

/-- R77: the row's byte leaves the buffer and the LOAD awaits data. -/
theorem test_load_row :
    (let t := after .loadRowEnd
      { withJobs [loadJob .active] (some ⟨1, ⟨0, 0, 8, 2⟩⟩) twoPlanes with staging := [0xA5] }
    (t.readByte 0, t.staging, t.jobs.map (·.state))) = (0xA5, [], [.awaitingData]) := by decide +kernel

/-- R99: 1-bits of the glyph's first row 101 at the pen; R98: its box. -/
theorem test_text_row :
    (let s := (withJobs [textJob .queued] none (withFont twoPlanes)).examine
    (s.writeHold, (after .textRowEnd s).readByte 0)) = (some ⟨1, ⟨0, 0, 3, 2⟩⟩, 0xA0) := by decide +kernel

/-- R79: the JOB_END of a LOAD that times out. -/
theorem test_data_timeout :
    (after .dataTimeout
      { withJobs [loadJob .awaitingData] (some ⟨1, ⟨0, 0, 8, 2⟩⟩) twoPlanes with
        dataTimer := .running 500 }).notices.queue.map (·.content) =
      [.started .power, .jobEnd 1 .load .dataTimeout 0 0 0] := by decide +kernel

/-- R19: with block 0 free, plane 2's extent moves down by one and the free extents coalesce. -/
theorem test_extent_move :
    (let s : State :=
      { State.setPlane twoPlanes 1 freePlaneRecord with
        freeList := [⟨0, 1⟩, ⟨2, 1534⟩], jobs := [packJob .active], layoutLock := true }
    ((after .extentMove s).freeList, ((after .extentMove s).plane 2).extent)) = ([⟨1, 1535⟩], ⟨0, 1⟩) := by
  decide +kernel

/-- Section 6.6.1: a font of 2 blocks; a glyph rewritten keeps the count. -/
theorem test_new_font :
    said (replyTo .newFont (ask kindNewFont [0, 2, 12, 0, 63] twoPlanes)) = some (0, [0, 0, 2, 2]) := by decide +kernel
theorem test_glyph_again :
    (let t := after .glyph (ask kindGlyph [0, 0, 49, 3, 2, 4, 0, 0, 255, 254, 1, 2] (withFont twoPlanes))
    ((t.font 0).usedBytes, (t.font 0).glyphCount, t.glyphs.map (·.offset))) = (4, 1, [2]) := by decide +kernel
theorem test_drop_font :
    said (replyTo .dropFont (ask kindDropFont [0] (withFont twoPlanes))) = some (0, [0, 0, 1]) := by decide +kernel

/-- Section 7.5.1: the query is claimed at once on a free bus, and ID 0x21 gives the defaults. -/
theorem test_configure_panel :
    (after .configurePanel
      (ask kindConfigurePanel [0, 0, 16, 0, 4, 1, 1, 0, 0, 0, 0, 1, 0, 0, 255, 0, 0] twoPlanes)).bus.owner = .query := by
  decide +kernel
theorem test_query :
    (let s := after .configurePanel
      (ask kindConfigurePanel [0, 0, 16, 0, 4, 1, 1, 0, 0, 0, 0, 1, 0, 0, 255, 0, 0] twoPlanes)
    said (replyTo (.query 0x21) s)) = some (0, [0, 33, 0, 200, 8, 15, 160]) := by decide +kernel
theorem test_query_no_driver :
    (let s := after .configurePanel
      (ask kindConfigurePanel [0, 0, 16, 0, 4, 1, 1, 0, 0, 0, 0, 1, 0, 0, 255, 0, 0] twoPlanes)
    said (replyTo (.query 0xFF) s)) = some (0x42, [255]) := by decide +kernel

/-- R110, R111. -/
theorem test_release_panel :
    (after .releasePanel (ask kindReleasePanel [0] (withPort (smallPort .idle) twoPlanes))).portA =
      unconfiguredPort := by decide +kernel
theorem test_clear_fault :
    said (replyTo .clearFault (ask kindClearFault [0] (withPort (smallPort (.fault .busyTimeout)) twoPlanes))) =
      some (0, [0, 2]) := by decide +kernel

/-- Section 7.5.2: the first addition at capacity. -/
theorem test_merge_at_capacity :
    (mergeDamage 296 128
      ⟨[⟨0, 0, 40, 16⟩, ⟨48, 0, 40, 16⟩, ⟨96, 0, 40, 16⟩, ⟨144, 0, 40, 16⟩, ⟨0, 24, 40, 16⟩, ⟨48, 24, 40, 16⟩,
        ⟨200, 100, 20, 20⟩, ⟨240, 100, 20, 20⟩], false⟩ ⟨224, 104, 8, 8⟩).list.drop 6 =
      [⟨240, 100, 20, 20⟩, ⟨200, 100, 32, 20⟩] := by decide +kernel

/-- R131: the row of a PIXELS command, UPDATE after the last row. -/
theorem test_window :
    (after .window ((streaming .fullWave (.window ⟨0, 1, 16, 1⟩ []) false twoPlanes))).busTransaction =
      some (.a, [0x03, 0xFF, 0xFF]) := by decide +kernel
theorem test_pixels :
    (after .pixels ((streaming .fullWave (.pixels ⟨0, 1, 16, 1⟩ 0 [] []) false twoPlanes))).busTransaction =
      some (.a, [0x04]) := by decide +kernel

/-- R132, R138. -/
theorem test_update :
    (after (.update .jobFirst) (streaming .fullWave .update false twoPlanes)).portA.busyTimer = .running 4000 := by
  decide +kernel
theorem test_abort :
    (after (.abort .portFirst) (streaming .fullWave .abort true twoPlanes)).portA.state = .idle := by decide +kernel

/-- Section 8.9: the fall completes a PARTIAL refresh with the ghost count raised. -/
theorem test_busy_line_fall :
    (after (.busyLineFall .a)
      { withPort (smallPort (.settling (smallSet .partialWave) false)) twoPlanes with
        busyLineA := true }).portA.ghostCount = 4 := by decide +kernel
theorem test_busy_line_rise : (after (.busyLineRise .b) State.reset).busyLineB = true := by decide +kernel

/-- R134: the set is merged back; R125. -/
theorem test_busy_timeout :
    (after (.busyTimerExpiry .a)
      (withPort (smallPort (.settling (smallSet .partialWave) false)) twoPlanes)).portA.damage = [⟨0, 0, 16, 2⟩] := by
  decide +kernel
theorem test_busy_stuck :
    (after (.busyTimerExpiry .a) (withPort (smallPort (.pending .busy)) twoPlanes)).portA.state =
      .fault .busyStuck := by decide +kernel

/-- R121: an IDLE port with damage is granted the free bus; Section 8.9: the set is widened. -/
theorem test_hold_off_expiry :
    (after (.holdOffTimerExpiry .a)
      (withPort { smallPort .idle with damage := [⟨5, 0, 2, 1⟩], holdOffTimer := .running 200 } twoPlanes)).portA.state =
      .streaming { waveform := .partialWave, rects := [⟨0, 0, 8, 1⟩] } (.window ⟨0, 0, 8, 1⟩ []) false := by
  decide +kernel

/-- R156: a sent reply enters the cache unless its tag is 0. -/
theorem test_reply_frame_sent :
    (let s : State :=
      { State.reset with
        link := { State.reset.link with
          slots := [{ tag := 7, kind := kindPing, inHand := false, content := .answered (statusOnly .ok) true }]
          sending := some (.reply 7 kindPing (statusOnly .ok) clearFlags) } }
    (after (.replyFrameSent .transmitterFirst) s).link.cache) =
      [{ tag := 7, kind := kindPing, reply := statusOnly .ok }] := by decide +kernel

/-- Section 9.5: with two OUTSTANDING, the third notice is begun with the counter's number. -/
theorem test_notice_frame_sent :
    (after .noticeFrameSent window).link.sending = some (.notice 19 (.jobEnd 5 .mark .ok 0 0 5) false) := by
  decide +kernel

/-! ## Witnesses -/

/-- Handler work set, with no slot. -/
def busyWith (w : Work) (s : State) : State := { s with link := { s.link with slots := [], work := some w } }

/-- A slot whose reply is ready. -/
def readySlot1 : Slot := { tag := 7, kind := kindPing, inHand := false, content := .answered (statusOnly .ok) false }

/-- A HELD slot. -/
def heldSlot : Slot := { tag := 9, kind := kindPing, inHand := false, content := .held [] }

theorem witness_idle : State.reset.pending = [] := rfl

theorem witness_fullReset :
    ((idle (due .full twoPlanes)).link.work = some (.resetDue .full) ∧
        (idle (due .full twoPlanes)).anyStreaming = false ∧ (idle (due .full twoPlanes)).link.sending = none) ∧
      ((busyWith .fullWaiting twoPlanes).link.work = some .fullWaiting ∧
        (busyWith .fullWaiting twoPlanes).anyStreaming = false ∧
        (busyWith .fullWaiting twoPlanes).link.sending = some (.notice 0 (.started .power) false)) ∧
      ((due .full (streaming .fullWave .update false twoPlanes)).link.work = some (.resetDue .full) ∧
        (due .full (streaming .fullWave .update false twoPlanes)).anyStreaming = true ∧
        (due .full (streaming .fullWave .update false twoPlanes)).portA.state =
          .streaming (smallSet .fullWave) .update false ∧
        (due .full (streaming .fullWave .update false twoPlanes)).portB.isStreaming = false) ∧
      ((due .full twoPlanes).link.work = some (.resetDue .full) ∧ ¬ (due .full twoPlanes).link.sending = none) := by
  decide +kernel

theorem witness_linkBreak :
    ¬ window.link.work = some .fullWaiting ∧
      ¬ (busyWith (.resetReply .engine) window).link.work = some .fullWaiting ∧
      ((busyWith .fullWaiting window).link.work = some .fullWaiting ∧
        (busyWith .fullWaiting window).anyStreaming = false) := by decide +kernel

theorem witness_reset :
    NextRequest (ask kindReset [1] twoPlanes) kindReset 1 [1] [] [] ∧
      NextRequest (ask kindReset [2] twoPlanes) kindReset 1 [2] [] [] ∧
      NextRequest (ask kindReset [0] twoPlanes) kindReset 1 [0] [] [] ∧
      NextRequest (ask kindReset [3] twoPlanes) kindReset 1 [3] [] [] ∧
      ¬ (0 : Byte) = 1 ∧ ¬ (0 : Byte) = 2 ∧ ¬ (3 : Byte) = 1 ∧ ¬ (3 : Byte) = 2 :=
  ⟨ask_next .., ask_next .., ask_next .., ask_next .., by decide⟩

/-- The two bytes of LEN at the edge: 1024 goes on, 1025 does not; a body of one byte ends at once. -/
theorem witness_receiver :
    State.reset.link.receiver = .hunt ∧
      (receiving (.length none) State.reset).link.receiver = .length none ∧
      (receiving (.length (some 4)) State.reset).link.receiver = .length (some 4) ∧
      ¬ 1024 < (4 : Byte).toNat * 256 + (0 : Byte).toNat ∧ 1024 < (4 : Byte).toNat * 256 + (1 : Byte).toNat ∧
      (receiving (.header 0 none) State.reset).link.receiver = .header 0 none ∧
      (receiving (.header 0 (some 1)) State.reset).link.receiver = .header 0 (some 1) ∧
      (receiving (.header 1024 (some 1)) State.reset).link.receiver = .header 1024 (some 1) ∧
      (receiving (.body 2 1 7 []) State.reset).link.receiver = .body 2 1 7 [] ∧ ([] : List Byte).length + 1 < 2 ∧
      (receiving (.body 2 1 7 [5]) State.reset).link.receiver = .body 2 1 7 [5] ∧ ([5] : List Byte).length + 1 = 2 ∧
      (receiving (.check 1 7 [] none) State.reset).link.receiver = .check 1 7 [] none ∧
      ¬ (receiving (.check 1 7 [] none) State.reset).link.receiver = .hunt := by decide +kernel

/-- A frame of a kind with its CHECK in two bytes, the second still to come. -/
def nearlyWhole (kind tag : Byte) (s : State) : State :=
  receiving (.check kind tag [] (some ((crc16 [0, 0, kind, tag] >>> 8).setWidth 8))) s

/-- The second byte of its CHECK. -/
def lastByte (kind tag : Byte) : Byte := (crc16 [0, 0, kind, tag]).setWidth 8

theorem witness_completeFrame :
    crc16 (itemU16 0 ++ [0x01, 7] ++ []) = (crc16 [0, 0, 0x01, 7] >>> 8).setWidth 8 ++ lastByte 0x01 7 ∧
      ¬ crc16 (itemU16 0 ++ [0x01, 7] ++ []) = (crc16 [0, 0, 0x01, 7] >>> 8).setWidth 8 ++ (lastByte 0x01 7 + 1) ∧
      (nearlyWhole 0x01 7 State.reset).link.slots.length < 4 ∧
      (∀ e ∈ (nearlyWhole 0x01 7 State.reset).link.cache, ¬ (e.tag = 7 ∧ e.kind = 1)) ∧
      crc16 (itemU16 0 ++ [0x40, 7] ++ []) = (crc16 [0, 0, 0x40, 7] >>> 8).setWidth 8 ++ lastByte 0x40 7 ∧
      ¬ (1 ≤ (0x40 : Byte).toNat ∧ (0x40 : Byte).toNat ≤ 63) ∧ (1 ≤ (0x3F : Byte).toNat ∧ (0x3F : Byte).toNat ≤ 63) := by
  decide +kernel

/-- All four slots taken. -/
def fullSlots : State :=
  { State.reset with link := { State.reset.link with slots := [heldSlot, heldSlot, heldSlot, heldSlot] } }

/-- A reply in the cache. -/
def cachedReply : State :=
  { State.reset with
    link := { State.reset.link with cache := [{ tag := 7, kind := 1, reply := statusOnly .ok }] } }

/-- Slots full; a request in a slot already; and a reply in the cache. -/
theorem witness_intakeSlots :
    (nearlyWhole 0x01 0 fullSlots).link.slots.length = 4 ∧ heldSlot.tag = 9 ∧ ¬ heldSlot.tag = 0 ∧
      heldSlot.kind = 0x01 ∧
      (nearlyWhole 0x01 7 cachedReply).link.cache = [] ++ { tag := 7, kind := 1, reply := statusOnly .ok } :: [] := by
  decide +kernel

/-- Bodies of 0 and of 1024 bytes, kinds 1 and 63. -/
theorem witness_everyFrame :
    State.reset.link.receiver = .hunt ∧ State.reset.transmit = State.reset ∧ State.reset.pending = [] ∧
      ([] : List Byte).length ≤ 1024 ∧ (List.replicate 1024 (0x5A : Byte)).length ≤ 1024 ∧
      1 ≤ (0x01 : Byte).toNat ∧ (0x3F : Byte).toNat ≤ 63 := by decide +kernel

theorem witness_ping :
    NextRequest (ask 0x01 (List.replicate 1022 0) State.reset) 0x01 1 (List.replicate 1022 0) [] [] ∧
      NextRequest (ask 0x01 (List.replicate 1023 0) State.reset) 0x01 1 (List.replicate 1023 0) [] [] ∧
      (List.replicate 1022 (0 : Byte)).length ≤ 1022 ∧ 1022 < (List.replicate 1023 (0 : Byte)).length ∧
      NextRequest (ask 0x05 [] State.reset) 0x05 1 [] [] [] ∧
      NextRequest (ask kindReset [] State.reset) kindReset 1 [] [] [] ∧ ¬ ([] : List Byte).length = 1 ∧
      NextRequest (ask kindResync [0] State.reset) kindResync 1 [0] [] [] ∧ ¬ ([0] : List Byte).length = 0 :=
  ⟨ask_next .., ask_next .., by decide +kernel, by decide +kernel, ask_next .., ask_next .., by decide, ask_next ..,
    by decide⟩

/-- A ready reply behind a HELD slot, and a transmitter that is sending. -/
theorem witness_transmitReply :
    (let s : State :=
      { State.reset with link := { State.reset.link with sending := none, slots := [heldSlot, readySlot1] } }
    s.link.sending = none ∧
      s.link.slots = [heldSlot] ++
        { tag := 7, kind := kindPing, inHand := false, content := .answered (statusOnly .ok) false } :: []) ∧
      (∀ sl ∈ [heldSlot], sl.isReady = false) ∧ ¬ State.reset.link.sending = none := by
  refine ⟨⟨rfl, rfl⟩, by decide, by decide⟩

theorem witness_transmitNotice :
    (idle window).link.sending = none ∧ (∀ sl ∈ (idle window).link.slots, sl.isReady = false) ∧
      (idle window).notices.state = .sending ∧
      (idle window).notices.queue =
        [markEnd .outstanding (some 17) false, markEnd .outstanding (some 18) false] ++
          markEnd .waiting none false :: [] ∧
      (∀ m ∈ [markEnd .outstanding (some 17) false, markEnd .outstanding (some 18) false],
        m.state = .outstanding ∧ m.resendDue = false) ∧
      (markEnd .waiting none false).state = .waiting ∧
      ((markEnd .outstanding (some 17) true).state = .outstanding ∧ (markEnd .outstanding (some 17) true).resendDue = true ∧
        (markEnd .outstanding (some 17) true).seq = some 17) ∧
      ({ window.notices with state := .stalled } : NoticeUnit).state = .stalled := by decide +kernel

/-- Four OUTSTANDING notices with a WAITING one behind them; and none WAITING behind none at all. -/
theorem witness_transmitNothing :
    (let out := [markEnd .outstanding (some 1) false, markEnd .outstanding (some 2) false,
      markEnd .outstanding (some 3) false, markEnd .outstanding (some 4) false]
    let u : NoticeUnit := { window.notices with queue := out ++ [markEnd .waiting none false] }
    ({ idle window with notices := u } : State).link.sending = none ∧ u.state = .sending ∧
      (∀ m ∈ out, m.state = .outstanding ∧ m.resendDue = false) ∧
      (∀ m ∈ [markEnd .waiting none false], m.state = .waiting) ∧ 4 ≤ out.length) ∧
      (twoPlanes.notices.queue = twoPlanes.notices.queue ++ [] ∧
        ∀ m ∈ twoPlanes.notices.queue, m.state = .outstanding ∧ m.resendDue = false) := by
  refine ⟨by decide +kernel, by simp, by decide +kernel⟩

theorem witness_frameSent :
    (let l : Link := { State.reset.link with
      sending := some (.reply 7 kindPing (statusOnly .ok) clearFlags)
      slots := [{ tag := 7, kind := kindPing, inHand := false, content := .answered (statusOnly .ok) true }, heldSlot] }
    ¬ l.work = some .fullWaiting ∧ l.slots =
      [] ++ { tag := 7, kind := kindPing, inHand := false, content := .answered (statusOnly .ok) true } :: [heldSlot] ∧
      (∀ sl ∈ [] ++ [heldSlot], sl.isBegun = false)) ∧
      (let l : Link := { State.reset.link with
        sending := some (.reply 7 kindReset (statusOnly .ok) clearFlags)
        slots := [{ tag := 7, kind := kindReset, inHand := true, content := .answered (statusOnly .ok) true }]
        work := some (.resetReply .full) }
      ¬ l.work = some .fullWaiting ∧ l.work = some (.resetReply .full) ∧ l.slots =
        [] ++ { tag := 7, kind := kindReset, inHand := true, content := .answered (statusOnly .ok) true } :: []) ∧
      State.reset.link.sending = some (.notice 0 (.started .power) false) := by
  refine ⟨⟨by decide, rfl, by decide⟩, ⟨by decide, rfl, rfl⟩, rfl⟩

/-- A PING's reply on HTX, with this work at the handler. -/
def replying (w : Work) : State :=
  { twoPlanes with
    link := { twoPlanes.link with
      sending := some (.reply 7 kindPing (statusOnly .ok) clearFlags)
      slots := [{ tag := 7, kind := kindPing, inHand := false, content := .answered (statusOnly .ok) true }, heldSlot]
      work := some w } }

/-- The end of that frame where a FULL reset waits for it, and where a reset is due already; the end of a notice frame
where a FULL reset waits for it. -/
theorem witness_frameSentReset :
    ((replying .fullWaiting).link.work = some .fullWaiting ∧ (replying .fullWaiting).anyStreaming = false) ∧
      (replying (.resetDue .engine)).link.work = some (.resetDue .engine) ∧
      (replying (.resetDue .engine)).link.slots =
        [] ++ { tag := 7, kind := kindPing, inHand := false, content := .answered (statusOnly .ok) true } ::
          [heldSlot] ∧
      (∀ sl ∈ [] ++ [heldSlot], sl.isBegun = false) ∧
      ((busyWith .fullWaiting twoPlanes).link.work = some .fullWaiting ∧
        (busyWith .fullWaiting twoPlanes).anyStreaming = false ∧
        (busyWith .fullWaiting twoPlanes).link.sending = some (.notice 0 (.started .power) false)) := by
  decide +kernel

/-- The second OUTSTANDING number is acknowledged; number 19 is held by none. -/
theorem witness_ack :
    NextRequest (ask kindAck [18] window) kindAck 1 [18] [] [] ∧
      (ask kindAck [18] window).notices.queue =
        [markEnd .outstanding (some 17) false] ++ markEnd .outstanding (some 18) false :: [markEnd .waiting none false] ∧
      (∀ m ∈ [markEnd .outstanding (some 17) false], ¬ (m.state = .outstanding ∧ m.seq = some 18)) ∧
      NextRequest (ask kindAck [19] window) kindAck 1 [19] [] [] ∧
      (∀ m ∈ (ask kindAck [19] window).notices.queue, ¬ (m.state = .outstanding ∧ m.seq = some 19)) :=
  ⟨ask_next .., rfl, by decide, ask_next .., by decide⟩

theorem witness_resync : NextRequest (ask kindResync [] window) kindResync 1 [] [] [] := ask_next ..

theorem witness_expiry :
    window.notices.timer.isRunning = true ∧ window.notices.retries < 3 ∧
      ({ window.notices with retries := 3 } : NoticeUnit).timer.isRunning = true ∧
      ¬ ({ window.notices with retries := 3 } : NoticeUnit).retries < 3 := by decide

/-- A state whose plane table is full. -/
def fullTable : State := { twoPlanes with planes := Vector.replicate 24 smallPlane }

/-- Widths 7, 8, 2048 and 2056; PACK active; no FREE record; no extent; an extent that fits exactly, and a larger one. -/
theorem witness_newPlane :
    NextRequest (ask kindNewPlane [0, 8, 0, 1, 1, 0] twoPlanes) kindNewPlane 1 [0, 8, 0, 1, 1, 0] [] [] ∧
      newPlaneFieldsOk 7 1 1 0 = false ∧ newPlaneFieldsOk 8 1 1 1 = true ∧ newPlaneFieldsOk 2048 2048 2 3 = true ∧
      newPlaneFieldsOk 2056 1 1 0 = false ∧ newPlaneFieldsOk 8 0 1 0 = false ∧ newPlaneFieldsOk 8 1 1 2 = false ∧
      (ask kindNewPlane [0, 8, 0, 1, 1, 0] (withJobs [packJob .active] none twoPlanes)).packActive = true ∧
      (∀ k, 1 ≤ k → k ≤ 24 → ¬ ((ask kindNewPlane [0, 8, 0, 1, 1, 0] fullTable).plane k).state = .free) ∧
      ((ask kindNewPlane [0, 8, 0, 1, 1, 0] twoPlanes).packActive = false ∧
        ((ask kindNewPlane [0, 8, 0, 1, 1, 0] twoPlanes).plane 3).state = .free ∧
        (∀ e ∈ ({ twoPlanes with freeList := [] } : State).freeList, e.count < 1)) ∧
      twoPlanes.freeList = [] ++ ⟨2, 1534⟩ :: [] ∧ 1 ≤ 1534 :=
  ⟨ask_next .., by decide, by decide, by decide, by decide, by decide, by decide, by decide +kernel,
    by intro k h1 h2; interval_cases k <;> decide +kernel, by decide +kernel, by decide +kernel, by decide⟩

theorem deepPlane_shaped : (twoPlanes.plane 2).shaped := by
  refine ⟨Or.inr ?_, ?_, ?_⟩ <;> decide +kernel

theorem smallPlane_shaped : (twoPlanes.plane 1).shaped := by
  refine ⟨Or.inl ?_, ?_, ?_⟩ <;> decide +kernel

theorem witness_fillEnd :
    (inHand (.fill 2 3) kindNewPlane [] twoPlanes).link.work = some (.fill 2 3) ∧
      ((inHand (.fill 2 3) kindNewPlane [] twoPlanes).plane 2).shaped ∧
      (((inHand (.fill 1 1) kindNewPlane [] twoPlanes).plane 1).depth = 1 → (1 : Px).toNat ≤ 1) ∧
      (inHand (.fill 2 3) kindNewPlane [] twoPlanes).link.slots =
        [] ++ { tag := 1, kind := kindNewPlane, inHand := true, content := .held [] } :: [] ∧
      ((busyWith (.fill 2 3) twoPlanes).link.work = some (.fill 2 3) ∧
        ∀ sl ∈ (busyWith (.fill 2 3) twoPlanes).link.slots, sl.inHand = false) :=
  ⟨rfl, deepPlane_shaped, by decide, rfl, rfl, by decide +kernel⟩

theorem witness_freePlane :
    NextRequest (ask kindFreePlane [1] twoPlanes) kindFreePlane 1 [1] [] [] ∧
      (ask kindFreePlane [1] twoPlanes).packActive = false ∧
      ((ask kindFreePlane [1] twoPlanes).plane 1).state = .live ∧ ((ask kindFreePlane [1] twoPlanes).plane 1).refCount = 0 ∧
      (twoPlanes.plane 0).state = .free ∧ (twoPlanes.plane 3).state = .free ∧ (twoPlanes.plane 24).state = .free ∧
      (twoPlanes.plane 25).state = .free ∧
      ((twoPlanes.setPlane 1 { smallPlane with state := .retiring }).plane 1).state = .retiring ∧
      ((withPort (smallPort .idle) twoPlanes).plane 1).boundA = true ∧
      (withJobs [packJob .active] none twoPlanes).packActive = true ∧
      0 < ((withJobs [longFill .active] none twoPlanes).plane 1).refCount := by
  refine ⟨ask_next .., ?_⟩
  decide +kernel

/-- Handles 0, 1, 24 and 25; font ids 3 and 4; pattern indices 15 and 16; ports 0, 1 and 2. -/
theorem witness_reports :
    NextRequest (ask kindPlaneInfo [24] twoPlanes) kindPlaneInfo 1 [24] [] [] ∧
      NextRequest (ask kindPlaneInfo [25] twoPlanes) kindPlaneInfo 1 [25] [] [] ∧
      NextRequest (ask kindPlaneInfo [0] twoPlanes) kindPlaneInfo 1 [0] [] [] ∧
      NextRequest (ask kindPlaneInfo [1] twoPlanes) kindPlaneInfo 1 [1] [] [] ∧
      NextRequest (ask kindStoreInfo [] twoPlanes) kindStoreInfo 1 [] [] [] ∧
      NextRequest (ask kindFontInfo [3] twoPlanes) kindFontInfo 1 [3] [] [] ∧
      NextRequest (ask kindFontInfo [4] twoPlanes) kindFontInfo 1 [4] [] [] ∧
      NextRequest (ask kindGetPattern [15] twoPlanes) kindGetPattern 1 [15] [] [] ∧
      NextRequest (ask kindGetPattern [16] twoPlanes) kindGetPattern 1 [16] [] [] ∧
      NextRequest (ask kindPanelInfo [0] twoPlanes) kindPanelInfo 1 [0] [] [] ∧
      NextRequest (ask kindPanelInfo [1] twoPlanes) kindPanelInfo 1 [1] [] [] ∧
      NextRequest (ask kindPanelInfo [2] twoPlanes) kindPanelInfo 1 [2] [] [] :=
  ⟨ask_next .., ask_next .., ask_next .., ask_next .., ask_next .., ask_next .., ask_next .., ask_next .., ask_next ..,
    ask_next .., ask_next .., ask_next ..⟩

theorem witness_setPattern :
    NextRequest (ask kindSetPattern (15 :: List.replicate 16 0x1B) twoPlanes) kindSetPattern 1
        (15 :: List.replicate 16 0x1B) [] [] ∧
      (List.replicate 16 (0x1B : Byte)).length = 16 ∧ (15 : Byte).toNat ≤ 15 ∧
      NextRequest (ask kindSetPattern (16 :: List.replicate 16 0x1B) twoPlanes) kindSetPattern 1
        (16 :: List.replicate 16 0x1B) [] [] ∧ 15 < (16 : Byte).toNat :=
  ⟨ask_next .., by decide, by decide, ask_next .., by decide⟩

/-- The last column of a row of each plane. -/
theorem witness_drawnRow :
    (twoPlanes.plane 1).shaped ∧ (twoPlanes.plane 2).shaped ∧ 1 ≤ 1 ∧ 15 + 1 ≤ (twoPlanes.plane 1).width ∧
      7 + 1 ≤ (twoPlanes.plane 2).width ∧
      (∀ v : Px, (twoPlanes.plane 1).depth = 1 → (combine 1 6 1 v).toNat ≤ 1) :=
  ⟨smallPlane_shaped, deepPlane_shaped, by decide, by decide +kernel, by decide +kernel,
    fun v _ => by revert v; decide⟩

/-- Every bound of the field ranges is met at its end. -/
theorem witness_submitBodies :
    (255 : Nat) < 256 ∧ (2047 : Nat) ≤ 2047 ∧ (1 : Nat) ≤ 2048 ∧ (3 : Nat) ≤ 3 ∧ (15 : Nat) ≤ 15 ∧
      (4294967295 : Nat) < 4294967296 ∧ (-32768 : Int) ≤ -32768 ∧ (-32768 : Int) ≤ 32767 ∧
      (∀ k ∈ [0, 65535], k < 65536) := by decide

/-- The bodies of a FILL, a BLOCK and a LOAD of plane 1 (Table 11-7). -/
def fillBody : List Byte := [1, 0, 1, 0, 8, 0, 3, 0, 8, 0, 1, 0, 1, 0, 10]
def blockBody (src : Byte) : List Byte := [2, 0, 1, 0, 0, 0, 0, 0, 8, 0, 1, 2, 0, 0, 10, src, 0, 8, 0, 3]
def loadBody (w : Byte) : List Byte := [3, 1, 1, 0, 0, 0, 0, 0, w, 0, 1, 10]

/-- The body of a TEXT of plane 1 with these codes, two bytes each. -/
def textBody (codes : List Byte) : List Byte := [4, 0, 1, 0, 255, 255, 0, 5, 1, 10] ++ codes

/-- Bodies of Table 11-7's lengths fit, a TEXT with 1 and with 128 codes among them. -/
theorem witness_submitLengths :
    (SubmitLengthFits fillBody ∧ SubmitLengthFits (blockBody 2) ∧ SubmitLengthFits (loadBody 4) ∧
      SubmitLengthFits [5, 0, 1, 1] ∧ SubmitLengthFits [6, 0] ∧ SubmitLengthFits [7, 0, 0, 0, 0, 5] ∧
      SubmitLengthFits [8, 0]) ∧
      SubmitLengthFits (textBody [0, 49]) ∧ SubmitLengthFits (textBody (List.replicate 256 0)) := by
  refine ⟨⟨?_, ?_, ?_, ?_, ?_, ?_, ?_⟩, ?_, ?_⟩
  iterate 7 (refine ⟨by decide, by decide, by decide, fun h => ?_, by decide, by decide, by decide, by decide⟩; cases h)
  · exact ⟨by decide, by decide, by decide, fun _ => ⟨1, by decide⟩, by decide, by decide, by decide, by decide⟩
  · exact ⟨by decide, by decide, by decide, fun _ => ⟨128, by decide +kernel⟩, by decide, by decide, by decide,
      by decide +kernel⟩

/-- Bodies of other lengths do not: a byte too few, no code, an odd byte, 129 codes, one byte alone. -/
theorem witness_submitLengthsRefused :
    ¬ SubmitLengthFits fillBody.dropLast ∧ ¬ SubmitLengthFits (textBody []) ∧ ¬ SubmitLengthFits (textBody [0]) ∧
      ¬ SubmitLengthFits (textBody (List.replicate 258 0)) ∧ ¬ SubmitLengthFits [8] := by
  have text : ∀ l : List Byte, SubmitLengthFits (textBody l) → ∃ n, 1 ≤ n ∧ n ≤ 128 ∧ l.length = 2 * n := by
    intro l h
    obtain ⟨n, h1, h2, h3⟩ := h.2.2.2.1 rfl
    exact ⟨n, h1, h2, by rw [textBody, List.length_append] at h3; exact Nat.add_left_cancel h3⟩
  refine ⟨fun h => absurd (h.1 (by decide)) (by decide), ?_, ?_, ?_,
    fun h => absurd h.2.2.2.2.2.2.2 (by decide)⟩
  all_goals
    intro h
    obtain ⟨n, h1, h2, h3⟩ := text _ h
    simp only [List.length_replicate, List.length_nil, List.length_singleton] at h3
    omega

/-- Fields at the ends of their ranges and past them: the row function 15 and 16, the kinds 7 and 8, the report flag, the
width 2048 and 2049, the source kind of a FILL. -/
theorem witness_submitRanges :
    SubmitInRange fillBody ∧ SubmitInRange [1, 1, 1, 7, 255, 7, 255, 8, 0, 8, 0, 1, 3, 15, 15] ∧
      ¬ SubmitInRange [1, 0, 1, 0, 8, 0, 3, 0, 8, 0, 1, 0, 1, 0, 16] ∧
      ¬ SubmitInRange [1, 0, 1, 0, 8, 0, 3, 8, 1, 0, 1, 0, 1, 0, 10] ∧
      ¬ SubmitInRange [1, 0, 1, 0, 8, 0, 3, 0, 8, 0, 1, 2, 1, 0, 10] ∧
      ¬ SubmitInRange [1, 2, 1, 0, 8, 0, 3, 0, 8, 0, 1, 0, 1, 0, 10] ∧ SubmitInRange [7, 0, 0, 0, 0, 5] ∧
      ¬ SubmitInRange [8, 0] ∧ SubmitInRange (blockBody 2) ∧ SubmitInRange (loadBody 4) := by
  simp [SubmitInRange, SubmitRectInRange, bodyU16, bodyU8, fillBody, blockBody, loadBody]

theorem witness_submitRefused :
    NextRequest (ask kindSubmit fillBody twoPlanes) kindSubmit 1 fillBody [] [] ∧
      submitHandles fillBody = [1] ∧ submitHandles (blockBody 2) = [1, 2] ∧ submitHandles [6, 0] = [] ∧
      32 ≤ (withJobs ((List.range 32).map (fun i => markJob (i + 1))) none twoPlanes).jobs.length ∧
      (ask kindSubmit fillBody twoPlanes).jobs.length < 32 ∧
      ((ask kindSubmit fillBody State.reset).plane 1).state = .free ∧
      ((ask kindSubmit fillBody (twoPlanes.setPlane 1 { smallPlane with state := .retiring })).plane 1).state = .retiring ∧
      ((ask kindSubmit fillBody twoPlanes).plane 1).state = .live ∧
      ¬ (twoPlanes.plane 2).depth = (twoPlanes.plane 1).depth := by
  refine ⟨ask_next .., ?_⟩
  decide +kernel

/-- A rectangle that ends at the plane's last column, and one that ends a column past it; a BLOCK between planes of one
depth; a LOAD of half a byte. -/
theorem witness_submitGeometry :
    twoPlanes.inPlane (submitRect fillBody) 1 ∧
      ¬ twoPlanes.inPlane (submitRect [1, 0, 1, 0, 9, 0, 3, 0, 8, 0, 1, 0, 1, 0, 10]) 1 ∧
      (bodyU8 (blockBody 1) 0 = 2 ∧ (twoPlanes.plane (bodyU8 (blockBody 1) 15)).depth =
        (twoPlanes.plane (bodyU8 (blockBody 1) 2)).depth) ∧
      ¬ twoPlanes.inPlane (submitSourceRect [2, 0, 1, 0, 0, 0, 0, 0, 8, 0, 1, 2, 0, 0, 10, 1, 0, 9, 0, 3]) 1 ∧
      (twoPlanes.inPlane (submitRect (loadBody 4)) 1 ∧ ¬ twoPlanes.onBytes (submitRect (loadBody 4)) 1) ∧
      (twoPlanes.submitFits fillBody ∧ twoPlanes.submitFits (loadBody 8)) := by
  refine ⟨?_, ?_, ⟨rfl, rfl⟩, ?_, ⟨?_, ?_⟩, ?_, ?_⟩ <;> dsimp only [State.submitFits, State.inPlane, State.onBytes] <;>
    decide +kernel

/-- The queue law of a state with one running FILL and a MARK behind it. -/
theorem queueLaw_two (s : State) (h : s.jobs = [longFill .active, markJob 7]) (c : s.jobCounter = 40)
    (w : s.link.work.map Work.emptiesQueue ≠ some true) : QueueLaw s := by
  unfold QueueLaw
  rw [h, c]
  exact ⟨by decide, by decide, by simp [longFill, fillJob], by decide, by decide, by decide, by decide, by decide,
    fun e => absurd e w⟩

/-- Two jobs: a FILL of plane 1 ACTIVE, its write hold taken, and a MARK. -/
def drawing : State := withJobs [longFill .active, markJob 7] (some ⟨1, ⟨0, 0, 8, 2⟩⟩) twoPlanes

theorem witness_accepted :
    NextRequest (ask kindSubmit fillBody drawing) kindSubmit 1 fillBody [] [] ∧
      QueueLaw (ask kindSubmit fillBody drawing) ∧ SubmitLengthFits fillBody ∧ SubmitInRange fillBody ∧
      (ask kindSubmit fillBody drawing).jobs.length < 32 ∧
      (∀ h ∈ submitHandles fillBody, ((ask kindSubmit fillBody drawing).plane h).state = .live) ∧
      (ask kindSubmit fillBody drawing).submitFits fillBody := by
  refine ⟨ask_next .., queueLaw_two _ rfl rfl (by decide), witness_submitLengths.1.1, witness_submitRanges.1,
    by decide, by decide +kernel, ?_⟩
  dsimp only [State.submitFits, State.inPlane, State.onBytes]
  decide +kernel

/-- R38: the counter is 65535 and a job holds that number, so the next accepted job takes 1. -/
theorem test_number_wraps :
    said (replyTo .submit (ask kindSubmit [7, 0, 0, 0, 0, 5]
      { twoPlanes with jobs := [{ longFill .active with number := 65535 }], jobCounter := 65535 })) =
      some (0, [0, 1]) := by decide +kernel

/-- Port A's read hold lies on rows 0 and 1 of plane 1, where the FILL and the LOAD write. -/
def streamingA : State := streaming .fullWave .update false twoPlanes

theorem witness_headExamined :
    (withJobs [longFill .queued] none twoPlanes).jobs = longFill .queued :: [] ∧
      (withJobs [longFill .held] none streamingA).jobs = longFill .held :: [] ∧
      ((withJobs [longFill .held] none streamingA).port .a).boundPlane = 1 ∧
      (∃ u ∈ ((withJobs [longFill .held] none streamingA).port .a).readHolds, overlaps ⟨0, 0, 8, 2⟩ u = true) ∧
      (withJobs [longFill .queued] none twoPlanes).readHeld 1 ⟨0, 0, 8, 2⟩ = false ∧
      (withJobs [scrollJob .queued] none twoPlanes).jobs = scrollJob .queued :: [] ∧
      (withJobs [loadJob .queued] none twoPlanes).jobs = loadJob .queued :: [] ∧
      (withJobs [markJob 7] none twoPlanes).jobs = markJob 7 :: [] := by decide +kernel

theorem witness_textHead :
    (withJobs [textJob .queued] none (withFont twoPlanes)).jobs = textJob .queued :: [] ∧
      ((withJobs [textJob .queued] none (withFont twoPlanes)).font 0).state = .defined ∧
      ((withJobs [textJob .queued] none twoPlanes).font 0).state = .undefined ∧
      (textJob .queued).body = .text 1 0 0 2 1 10 [49] := by decide +kernel

/-- A PACK examined as head has moved nothing. -/
theorem witness_packUnstarted : (packJob .queued).body = .pack ∧ (packJob .queued).rowsDone = 0 := by decide

theorem witness_showPack :
    (withJobs [showJob false] none (withPort (smallPort .idle) twoPlanes)).jobs = showJob false :: [] ∧
      (showJob true).body = .showPort .a true ∧ (showJob false).state = .queued ∧
      (let s := withJobs [packJob .queued] none (State.setPlane { twoPlanes with freeList := [⟨0, 1⟩, ⟨2, 1534⟩] } 1 freePlaneRecord)
      (s.layoutLock = false ∧ s.anyStreaming = false ∧ s.fillInProgress = false) ∧ s.nextMove.isSome = true) ∧
      ¬ (withJobs [packJob .queued] none streamingA).anyStreaming = false ∧
      (let s := withJobs [packJob .queued] none twoPlanes
      (s.layoutLock = false ∧ s.anyStreaming = false ∧ s.fillInProgress = false) ∧ s.nextMove = none) := by
  refine ⟨?_, ?_, ?_, ⟨?_, ?_⟩, ?_, ?_, ?_⟩ <;> decide +kernel

/-- R19, R20: with nothing to move a PACK ends with 0 extents moved. -/
theorem test_pack_nothing_to_move :
    ((withJobs [{ packJob .queued with report := true }] none twoPlanes).examine).notices.queue.map (·.content) =
      [.started .power, .jobEnd 1 .pack .ok 0 0 0] := by decide +kernel

theorem planeLaw_drawing (s : State) (hp : s.planes = drawing.planes) (hj : s.jobs = drawing.jobs)
    (w : ∀ q, ¬ s.link.work = some (.query q)) : PlaneLaw s := by
  have e : ∀ h, s.plane h = drawing.plane h := fun h => by unfold State.plane; rw [hp]
  refine ⟨fun h h1 h2 => ?_, fun q hq => absurd hq (w q)⟩
  rw [e, hj]
  interval_cases h <;> decide +kernel

theorem engineLaw_drawing (s : State) (hp : s.planes = drawing.planes) (hj : s.jobs = drawing.jobs)
    (hc : s.jobCounter = 40) (w : s.link.work.map Work.emptiesQueue ≠ some true)
    (w' : ∀ q, ¬ s.link.work = some (.query q)) : EngineLaw s :=
  ⟨queueLaw_two s hj hc w, planeLaw_drawing s hp hj w'⟩

theorem portLaw_unconfigured : PortLaw unconfiguredPort :=
  ⟨fun _ => rfl, by decide, by decide, by decide, by decide, by decide, by decide,
    fun _ _ h => (by cases h), by decide, fun _ h => (by cases h), by decide⟩

theorem witness_engineReset :
    (EngineLaw (due .engine drawing) ∧ PortsLaw (due .engine drawing) ∧
      (due .engine drawing).link.work = some (.resetDue .engine) ∧
      (due .engine drawing).jobs.head? = some (longFill .active) ∧ (longFill .active).running = true ∧
      (due .engine drawing).stopsAtOnce (longFill .active) = false) ∧
      EngineLaw (due .engine State.reset) ∧ PortsLaw (due .engine State.reset) ∧
      (∀ j ∈ (due .engine State.reset).jobs.head?, j.running = false) := by
  refine ⟨⟨engineLaw_drawing _ rfl rfl rfl (by decide) (by intro q h; cases h),
    ⟨portLaw_unconfigured, portLaw_unconfigured, fun q h => (by cases h)⟩, rfl, rfl, rfl, rfl⟩, ?_,
    ⟨portLaw_unconfigured, portLaw_unconfigured, fun q h => (by cases h)⟩, by simp [due, State.reset]⟩
  refine ⟨⟨by decide, by decide, by simp [due, State.reset], by decide, by decide, by decide, by decide, by decide,
    fun e => absurd e (by decide)⟩, fun h h1 h2 => ?_, fun q h => (by cases h)⟩
  interval_cases h <;> decide +kernel

/-- The laws of the bus where nobody owns it and nobody claims it. -/
theorem busLaw_free (s : State) (ho : s.bus.owner = .none) (hq : s.queryWaits = false)
    (ha : s.portA.isStreaming = false) (hb : s.portB.isStreaming = false) (hl : s.layoutLock = false)
    (ca : s.claims .a = false) (cb : s.claims .b = false) : BusLaw s := by
  refine ⟨fun p => ?_, fun h => ?_, fun h => ?_, fun _ => ⟨hq, ca, cb⟩⟩
  · cases p <;> simp [State.port, ha, hb, ho]
  · rw [ho] at h; cases h
  · rw [hl] at h; cases h

theorem witness_jobEnd :
    drawing.jobs = longFill .active :: [markJob 7] ∧ EngineLaw drawing ∧ BusLaw drawing ∧
      (∀ p, (drawing.port p).waits .hold = false) :=
  ⟨rfl, engineLaw_drawing _ rfl rfl rfl (by decide) (by intro q h; cases h),
    busLaw_free _ rfl rfl rfl rfl rfl rfl rfl, fun p => (by cases p <;> rfl)⟩

/-- A TEXT that ends at its examination, from QUEUED, with a MARK behind it; the job that ends carries its missing code. -/
theorem witness_jobEndAtExamination :
    (let s := withJobs [textJob .queued, markJob 7] none twoPlanes
    let j : Job := { textJob .queued with fixed := { nothingFixed with missing := 1 } }
    s.jobs = textJob .queued :: [markJob 7] ∧ PlaneLaw s ∧ j.number = (textJob .queued).number ∧
      j.body = (textJob .queued).body ∧ ∀ i ∈ [markJob 7], ¬ i.number = j.number) := by
  refine ⟨rfl, ⟨fun h h1 h2 => ?_, fun q hq => (by cases hq)⟩, rfl, rfl, by decide⟩
  interval_cases h <;> decide +kernel

/-- The same with port A in the hold wait: at the end of the job it claims the bus and is granted it (R119). -/
def holdWait : State := withPort (smallPort (.pending .hold)) drawing

theorem witness_jobEndHoldWait :
    holdWait.jobs = longFill .active :: [markJob 7] ∧ EngineLaw holdWait ∧ (holdWait.port .a).state = .pending .hold ∧
      holdWait.writeHold = some ⟨1, ⟨0, 0, 8, 2⟩⟩ ∧ (holdWait.plane 1).bound .a = true := by
  refine ⟨rfl, ⟨queueLaw_two _ rfl rfl (by decide), fun h h1 h2 => ?_, fun q hq => (by cases hq)⟩, rfl, rfl, rfl⟩
  interval_cases h <;> decide +kernel

/-- R48, R119: the rows written are damage, and the port that waited on the hold streams it. -/
theorem test_hold_wait_ends :
    (let s := holdWait.endHead { longFill .active with rowsDone := 2 } .ok
    (s.bus.owner, s.portA.state.refreshSet)) =
      (.port .a, some ({ waveform := .partialWave, rects := [⟨0, 0, 8, 2⟩] }, false)) := by decide +kernel

/-- A RETIRING plane 1 whose only job departs, with and without a PACK active. -/
theorem witness_departure :
    (let s := (withJobs [longFill .active] none twoPlanes).setPlane 1 { smallPlane with state := .retiring, refCount := 1 }
    (s.plane 1).state = .retiring ∧ (s.plane 1).refCount ≤ ([longFill .active].filter (fun j => j.names 1)).length ∧
      (s.plane 1).releaseDue = false ∧ s.packActive = false ∧
      ({ s with jobs := [packJob .active, longFill .queued] } : State).packActive = true) := by decide +kernel

/-- R14, R49: that departure releases the plane with its notice. -/
theorem test_departure_releases :
    (let s := (withJobs [longFill .active] none twoPlanes).setPlane 1 { smallPlane with state := .retiring, refCount := 1 }
    let t := s.depart [longFill .active] [] false
    (t.freeList, t.notices.queue.map (·.content))) =
      ([⟨0, 1⟩, ⟨2, 1534⟩], [.started .power, .planeReleased 1]) := by decide +kernel

theorem witness_cancel :
    NextRequest (ask kindCancel [0, 1] drawing) kindCancel 1 [0, 1] [] [] ∧ QueueLaw (ask kindCancel [0, 1] drawing) ∧
      (ask kindCancel [0, 1] drawing).jobs = [] ++ longFill .active :: [markJob 7] ∧ (longFill .active).number = 1 ∧
      (ask kindCancel [0, 1] drawing).stopsAtOnce (longFill .active) = false ∧
      (ask kindCancel [0, 7] drawing).jobs = [longFill .active] ++ markJob 7 :: [] ∧ (markJob 7).number = 7 ∧
      (markJob 7).state = .queued ∧ (∀ j ∈ (ask kindCancel [0, 8] drawing).jobs, ¬ j.number = 8) ∧
      (withJobs [loadJob .awaitingData] none twoPlanes).stopsAtOnce (loadJob .awaitingData) = true :=
  ⟨ask_next .., queueLaw_two _ rfl rfl (by decide), rfl, rfl, rfl, rfl, rfl, rfl, by decide, rfl⟩

/-- A PACK that waits for the layout lock, a plane's release due, and a port in the lock wait. -/
def packStopping : State :=
  State.setPlane { withPort (smallPort (.pending .lock)) (withJobs [packJob .active] none twoPlanes) with layoutLock := true }
    2 { deepPlane with state := .retiring, releaseDue := true }

theorem witness_stop :
    packStopping.jobs = packJob .active :: [] ∧ packStopping.layoutLock = true ∧
      (packStopping.plane 2).releaseDue = true ∧ (packStopping.port .a).state = .pending .lock ∧
      drawing.jobs = longFill .active :: [markJob 7] ∧ drawing.layoutLock = false := by decide +kernel

/-- R20, R21: its stop releases the plane, and the port claims the bus and streams. -/
theorem test_pack_stop :
    (let t := packStopping.stopHead (packJob .active)
    (t.notices.queue.map (·.content), t.layoutLock, t.bus.owner)) =
      ([.started .power, .planeReleased 2], false, .port .a) := by decide +kernel

/-- A head of each kind at a release: HELD; ACTIVE; a PACK without the lock, with something to move and with nothing. -/
theorem witness_releases :
    ((withJobs [longFill .held] none twoPlanes).jobs = longFill .held :: [] ∧ (longFill .held).state = .held) ∧
      (drawing.jobs = longFill .active :: [markJob 7] ∧
        ¬ ((longFill .active).body = .pack ∧ (longFill .active).state = .active)) ∧
      (let s := withJobs [packJob .active] none twoPlanes
      (s.jobs = packJob .active :: [] ∧ s.layoutLock = false ∧ s.anyStreaming = false ∧ s.fillInProgress = false) ∧
        s.nextMove = none) ∧
      (let s := withJobs [packJob .active] none
        { State.setPlane twoPlanes 1 freePlaneRecord with freeList := [⟨0, 1⟩, ⟨2, 1534⟩] }
      (s.jobs = packJob .active :: [] ∧ s.layoutLock = false ∧ s.anyStreaming = false ∧ s.fillInProgress = false) ∧
        s.nextMove = some (⟨.plane 2, ⟨1, 1⟩⟩, 0)) ∧
      ¬ (withJobs [packJob .active] none streamingA).anyStreaming = false := by decide +kernel

/-- R45: the end of a fill is no release of a read hold; a HELD TEXT whose font is gone stays HELD. -/
theorem test_fill_end_leaves_held :
    (after .newPlaneFillEnd (inHand (.fill 2 0) kindNewPlane [] (withJobs [textJob .held] none streamingA))).jobs =
      [textJob .held] := by decide +kernel

theorem witness_flush :
    NextRequest (ask kindFlush [] drawing) kindFlush 1 [] [] [] ∧
      (ask kindFlush [] drawing).jobs = longFill .active :: [markJob 7] ∧ (longFill .active).running = true ∧
      ((ask kindFlush [] drawing).depart [markJob 7] [longFill .active] false).layoutLock = false ∧
      (∀ j ∈ (ask kindFlush [] (withJobs [longFill .held] none streamingA)).jobs.head?, j.running = false) := by
  refine ⟨ask_next .., rfl, rfl, by decide +kernel, ?_⟩
  intro j h
  have : j = longFill .held := by simpa [ask, withJobs, State.setPlane, streamingA, streaming] using h.symm
  rw [this]; rfl

theorem witness_queueInfo :
    NextRequest (ask kindQueueInfo [0, 7] drawing) kindQueueInfo 1 [0, 7] [] [] ∧
      (ask kindQueueInfo [0, 7] drawing).jobs = [longFill .active] ++ markJob 7 :: [] ∧ (markJob 7).number = 0 * 256 + 7 ∧
      NextRequest (ask kindQueueInfo [] drawing) kindQueueInfo 1 [] [] [] ∧
      NextRequest (ask kindQueueInfo [0] drawing) kindQueueInfo 1 [0] [] [] ∧ ¬ ([0] : List Byte).length = 2 ∧
      (∀ j ∈ (ask kindQueueInfo [0, 8] drawing).jobs, ¬ j.number = 8) :=
  ⟨ask_next .., rfl, rfl, ask_next .., ask_next .., by decide, by decide⟩

/-- A starving LOAD of 2 bytes: 2 are accepted, 3 are too long. -/
def starving : State := withJobs [loadJob .awaitingData] (some ⟨1, ⟨0, 0, 8, 2⟩⟩) twoPlanes

theorem queueLaw_starving (s : State) (h : s.jobs = [loadJob .awaitingData]) (c : s.jobCounter = 40)
    (w : s.link.work = none) : QueueLaw s := by
  unfold QueueLaw
  rw [h, c, w]
  exact ⟨by decide, by decide, by simp [loadJob], by decide, by decide, by decide, by decide, by decide,
    fun e => absurd e (by decide)⟩

theorem witness_data :
    NextRequest (ask kindData [0, 1, 5, 5] starving) kindData 1 ((0 : Byte) :: 1 :: 5 :: [5]) [] [] ∧
      QueueLaw (ask kindData [0, 1, 5, 5] starving) ∧
      (ask kindData [0, 1, 5, 5] starving).jobs = [] ++ loadJob .awaitingData :: [] ∧
      (loadJob .awaitingData).body = .load 1 ⟨0, 0, 8, 2⟩ 10 2 0 ∧ (0 : Byte).toNat * 256 + (1 : Byte).toNat = 1 ∧
      ([5, 5] : List Byte).length ≤ 2 - 0 ∧ 2 - 0 < ([5, 5, 5] : List Byte).length ∧
      ([5, 5] : List Byte).length ≤ 4096 - (ask kindData [0, 1, 5, 5] starving).staging.length ∧
      4096 - (List.replicate 4095 (0 : Byte)).length < ([5, 5] : List Byte).length ∧
      (∀ j ∈ drawing.jobs, j.isLoad = false) ∧
      NextRequest (ask kindData [0, 1] starving) kindData 1 [0, 1] [] [] ∧ ([0, 1] : List Byte).length < 3 :=
  ⟨ask_next .., queueLaw_starving _ rfl rfl rfl, rfl, rfl, by decide, by decide, by decide, by decide +kernel,
    by decide +kernel, by decide, ask_next .., by decide⟩

theorem witness_rows :
    (drawing.jobs = longFill .active :: [markJob 7] ∧ (longFill .active).state = .active ∧ drawing.stopPending = false ∧
        ¬ (longFill .active).rowsDone + 1 = 2) ∧
      ((withJobs [scrollJob .active] none twoPlanes).jobs = scrollJob .active :: [] ∧
        ¬ (scrollJob .active).rowsDone + 1 = 3) ∧
      ((withJobs [loadJob .active] none twoPlanes).jobs = loadJob .active :: [] ∧
        ¬ (loadJob .active).rowsDone + 1 = 2) ∧
      ((withJobs [textJob .active] (some ⟨1, ⟨0, 0, 3, 2⟩⟩) (withFont twoPlanes)).jobs = textJob .active :: [] ∧
        (withJobs [textJob .active] (some ⟨1, ⟨0, 0, 3, 2⟩⟩) (withFont twoPlanes)).writeHold = some ⟨1, ⟨0, 0, 3, 2⟩⟩ ∧
        ¬ (textJob .active).rowsDone + 1 = 2) := by decide +kernel

/-- The last row of each kind, and a stop pending. -/
theorem witness_lastRow :
    ((withJobs [fillJob .active 10] (some ⟨1, ⟨5, 0, 6, 1⟩⟩) twoPlanes).jobs = fillJob .active 10 :: [] ∧
        (fillJob .active 10).rowsDone + 1 = 1 ∧
        (withJobs [fillJob .active 10] (some ⟨1, ⟨5, 0, 6, 1⟩⟩) twoPlanes).stopPending = false) ∧
      ({ scrollJob .active with rowsDone := 2 } : Job).rowsDone + 1 = 3 ∧
      ({ loadJob .active with rowsDone := 1 } : Job).rowsDone + 1 = 2 ∧
      ({ textJob .active with rowsDone := 1 } : Job).rowsDone + 1 = 2 ∧
      (busyWith (.cancel 1) drawing).link.work = some (.cancel 1) ∧
      (busyWith (.flush 1 1 1) (withJobs [fillJob .active 10] none twoPlanes)).link.work = some (.flush 1 1 1) := by
  decide +kernel

/-- The FILL alone in the queue, with an ENGINE reset waiting for its row. -/
def stopping : State := busyWith .engineStopping (withJobs [longFill .active] (some ⟨1, ⟨0, 0, 8, 2⟩⟩) twoPlanes)

/-- The queue law of a state with one running job alone. -/
theorem queueLaw_one (s : State) (j : Job) (h : s.jobs = [j]) (a : j.state = .active) (n : j.number = 1)
    (c : s.jobCounter = 40) : QueueLaw s := by
  unfold QueueLaw
  rw [h, c]
  refine ⟨by simp, by simp, ?_, ?_, by simp, ?_, by decide, by decide, fun _ => rfl⟩
  · intro i hi; simp at hi; subst hi; rw [a]; decide
  · intro i hi e; simp at hi; subst hi; rw [a] at e; cases e
  · intro i hi; simp at hi; subst hi; rw [n]; decide

theorem witness_rowAtReset :
    stopping.jobs = longFill .active :: [] ∧ stopping.link.work = some .engineStopping ∧ EngineLaw stopping ∧
      PortsLaw stopping := by
  refine ⟨rfl, rfl, ⟨queueLaw_one _ _ rfl rfl rfl rfl, fun h h1 h2 => ?_, fun q h => (by cases h)⟩,
    portLaw_unconfigured, portLaw_unconfigured, fun q h => (by cases h)⟩
  interval_cases h <;> decide +kernel

/-- R57: at the end of the row the reset takes effect. -/
theorem test_row_at_reset :
    (let t := after .fillRowEnd stopping
    (t.jobs, t.writeHold, t.link.work, t.notices.queue.map (·.content))) =
      ([], none, none, [.started .power, .started .resetEngine]) := by decide +kernel

theorem witness_dataTimeout :
    ({ starving with dataTimer := .running 500 } : State).jobs = loadJob .awaitingData :: [] ∧
      (loadJob .awaitingData).state = .awaitingData ∧
      ({ starving with dataTimer := .running 500 } : State).dataTimer.isRunning = true ∧
      EngineLaw { starving with dataTimer := .running 500 } := by
  refine ⟨rfl, rfl, rfl, queueLaw_starving _ rfl rfl rfl, fun h h1 h2 => ?_, fun q h => (by cases h)⟩
  interval_cases h <;> decide +kernel

/-- Extents one after the other have no block in common. -/
theorem apart_extents (l : List Extent)
    (h : l.Pairwise (fun d e => d.first + d.count ≤ e.first ∨ e.first + e.count ≤ d.first)) :
    l.Pairwise (fun d e => ∀ b, ¬ (blockIn d b ∧ blockIn e b)) :=
  h.imp (by intro d e h b; unfold blockIn; omega)

/-- PACK with block 0 free and plane 2 in block 1. -/
def packing : State :=
  withJobs [packJob .active] none
    { State.setPlane twoPlanes 1 freePlaneRecord with freeList := [⟨0, 1⟩, ⟨2, 1534⟩], layoutLock := true }

theorem storeLaw_packing : StoreLaw packing := by
  have ha : packing.allocated.map (·.extent) ++ packing.freeList = [⟨1, 1⟩, ⟨0, 1⟩, ⟨2, 1534⟩] := by decide +kernel
  have hf : packing.freeList = [⟨0, 1⟩, ⟨2, 1534⟩] := rfl
  refine ⟨⟨?_, ?_⟩, ⟨?_, ?_, ?_⟩, ?_⟩
  · rw [hf]; decide
  · rw [hf]; decide
  · rw [ha]; decide
  · rw [ha]; exact apart_extents _ (by decide)
  · intro b; rw [ha]; simp [blockIn]; omega
  · intro h hr
    by_cases h1 : 1 ≤ h ∧ h ≤ 24
    · obtain ⟨h1, h2⟩ := h1
      interval_cases h <;> first | decide +kernel | (exfalso; revert hr; decide +kernel)
    · exfalso
      have : packing.plane h = freePlaneRecord := by
        unfold State.plane
        split
        · rw [Vector.getElem?_eq_none (by omega)]; rfl
        · rfl
      rw [this] at hr; cases hr

theorem witness_extentMove :
    packing.jobs = packJob .active :: [] ∧ (packJob .active).body = .pack ∧ (packJob .active).state = .active ∧
      packing.layoutLock = true ∧ packing.stopPending = false ∧
      packing.nextMove = some (⟨.plane 2, ⟨1, 1⟩⟩, 0) ∧ StoreLaw packing :=
  ⟨rfl, rfl, rfl, rfl, rfl, by decide +kernel, storeLaw_packing⟩

/-- The same with a CANCEL, a FLUSH and an ENGINE reset waiting for the move. -/
theorem witness_extentMoveStops :
    ((busyWith (.cancel 1) packing).link.work = some (.cancel 1) ∧ StoreLaw (busyWith (.cancel 1) packing)) ∧
      ((busyWith (.flush 1 1 1) packing).link.work = some (.flush 1 1 1) ∧
        StoreLaw (busyWith (.flush 1 1 1) packing)) ∧
      ((busyWith .engineStopping packing).link.work = some .engineStopping ∧
        (busyWith .engineStopping packing).nextMove = some (⟨.plane 2, ⟨1, 1⟩⟩, 0) ∧
        StoreLaw (busyWith .engineStopping packing) ∧ EngineLaw (busyWith .engineStopping packing) ∧
        PortsLaw (busyWith .engineStopping packing)) := by
  refine ⟨⟨rfl, storeLaw_packing⟩, ⟨rfl, storeLaw_packing⟩, rfl, by decide +kernel, storeLaw_packing,
    ⟨queueLaw_one _ _ rfl rfl rfl rfl, fun h h1 h2 => ?_, fun q h => (by cases h)⟩, portLaw_unconfigured,
    portLaw_unconfigured, fun q h => (by cases h)⟩
  interval_cases h <;> decide +kernel

/-- R20, R21: PACK stopped by a CANCEL gives up the layout lock and ends without a JOB_END. -/
theorem test_pack_cancelled :
    (let t := after .extentMove (busyWith (.cancel 1) packing)
    (t.jobs, t.layoutLock, (t.plane 2).extent, t.notices.queue.length)) = ([], false, ⟨0, 1⟩, 1) := by decide +kernel

/-- R1, R19: a byte of the extent that nothing has written moves too, its unspecified value with it. -/
theorem test_move_takes_unwritten_bytes (s : State) (i : Nat) (h : i < 256) :
    (s.moveExtent ⟨.plane 2, ⟨1, 1⟩⟩ 0).readByte i = s.readByte (256 + i) := by
  have e : (s.moveExtent ⟨.plane 2, ⟨1, 1⟩⟩ 0).readByte i = (s.copyBytes 256 0 256).readByte i := rfl
  rw [e, State.readByte_copyBytes, if_pos (by omega)]
  congr 1

theorem witness_newFont :
    NextRequest (ask kindNewFont [3, 64, 1, 0, 63] twoPlanes) kindNewFont 1 [3, 64, 1, 0, 63] [] [] ∧
      ((ask kindNewFont [3, 64, 1, 0, 63] twoPlanes).font 3).state = .undefined ∧
      (ask kindNewFont [3, 64, 1, 0, 63] twoPlanes).packActive = false ∧
      (ask kindNewFont [3, 64, 1, 0, 63] twoPlanes).freeList = [] ++ ⟨2, 1534⟩ :: [] ∧
      ((withFont twoPlanes).font 0).state = .defined ∧ packing.packActive = true ∧
      (∀ e ∈ ({ twoPlanes with freeList := [⟨2, 63⟩] } : State).freeList, e.count < 64) := by
  refine ⟨ask_next .., ?_⟩
  decide +kernel

theorem fontLaw_small (s : State) (hg : s.glyphs = [smallGlyph]) (hf : s.fonts = (withFont twoPlanes).fonts) :
    FontLaw s := by
  have e : ∀ i, s.font i = (withFont twoPlanes).font i := fun i => by unfold State.font; rw [hf]
  refine ⟨by rw [hg]; decide, by unfold GlyphsOrdered; rw [hg]; decide, ?_, ?_⟩
  · intro g h
    rw [hg, List.mem_singleton] at h
    rw [h, e]
    decide +kernel
  · intro i hi
    rw [hg, e]
    interval_cases i <;> decide +kernel

theorem witness_glyph :
    NextRequest (ask kindGlyph ([0, 0, 49, 3, 2, 4, 0, 0, 255, 254] ++ [1, 2]) (withFont twoPlanes)) kindGlyph 1
        ([0, 0, 49, 3, 2, 4, 0, 0, 255, 254] ++ [1, 2]) [] [] ∧
      FontLaw (ask kindGlyph ([0, 0, 49, 3, 2, 4, 0, 0, 255, 254] ++ [1, 2]) (withFont twoPlanes)) ∧
      ((ask kindGlyph [] (withFont twoPlanes)).font 0).state = .defined ∧
      ((ask kindGlyph [] (withFont twoPlanes)).font 1).state = .undefined ∧
      (ask kindGlyph [] (withFont twoPlanes)).packActive = false ∧
      ([1, 2] : List Byte).length = ((3 : Byte).toNat + 7) / 8 * (2 : Byte).toNat ∧
      256 * ((withFont twoPlanes).font 0).extent.count - ((withFont twoPlanes).font 0).usedBytes = 254 ∧
      254 < (List.replicate 256 (0 : Byte)).length ∧ 256 = ((16 : Byte).toNat + 7) / 8 * (128 : Byte).toNat := by
  refine ⟨ask_next .., fontLaw_small _ rfl rfl, ?_⟩
  decide +kernel

theorem witness_glyphShort :
    NextRequest (ask kindGlyph [0, 0, 49, 3, 2, 4, 0, 0, 255] twoPlanes) kindGlyph 1 [0, 0, 49, 3, 2, 4, 0, 0, 255] [] [] ∧
      ([0, 0, 49, 3, 2, 4, 0, 0, 255] : List Byte).length < 10 := ⟨ask_next .., by decide⟩

theorem witness_dropFont :
    NextRequest (ask kindDropFont [0] (withFont twoPlanes)) kindDropFont 1 [0] [] [] ∧
      ((ask kindDropFont [0] (withFont twoPlanes)).font 0).state = .defined ∧
      (ask kindDropFont [0] (withFont twoPlanes)).packActive = false ∧
      (withJobs [textJob .active] none (withFont twoPlanes)).jobs = textJob .active :: [] ∧
      (textJob .active).body = .text 1 0 0 2 1 10 [49] ∧
      ((ask kindDropFont [3] (withFont twoPlanes)).font 3).state = .undefined ∧ 3 < (4 : Byte).toNat := by
  refine ⟨ask_next .., ?_⟩
  decide +kernel

/-- The body of section 7.5.1's request for the small plane. -/
def panelBody : List Byte := [0, 0, 16, 0, 4, 1, 1, 0, 0, 0, 0, 1, 0, 0, 255, 0, 0]

theorem witness_configurePanel :
    NextRequest (ask kindConfigurePanel panelBody twoPlanes) kindConfigurePanel 1 panelBody [] [] ∧
      ((ask kindConfigurePanel panelBody twoPlanes).port .a).state = .unconfigured ∧
      ((ask kindConfigurePanel panelBody twoPlanes).plane 1).state = .live ∧
      0 + 16 ≤ ((ask kindConfigurePanel panelBody twoPlanes).plane 1).width ∧
      ¬ 8 + 16 ≤ ((ask kindConfigurePanel panelBody twoPlanes).plane 1).width ∧
      ¬ ((ask kindConfigurePanel panelBody twoPlanes).plane 2).depth = 1 ∧
      ((ask kindConfigurePanel panelBody twoPlanes).plane 3).state = .free ∧
      (ask kindConfigurePanel panelBody twoPlanes).bus.owner = .none ∧
      ¬ (ask kindConfigurePanel panelBody streamingA).bus.owner = .none ∧
      ((ask kindConfigurePanel panelBody streamingA).port .a).state = .streaming (smallSet .fullWave) .update false := by
  refine ⟨ask_next .., ?_⟩
  decide +kernel

/-- The request of that body, waiting on the bus. -/
def querying : State :=
  { inHand (.query
      { port := .a, width := 16, height := 4, depth := 1, handle := 1, ox := 0, oy := 0, mode := .auto, holdOff := 0,
        ghostLimit := 255, busyTimeout := 0 }) kindConfigurePanel panelBody twoPlanes with
    bus := { owner := .query, last := none } }

/-- IDs 1 and 254 configure, 0 and 255 do not. -/
theorem witness_query :
    querying.bus.owner = .query ∧ querying.queryWaits = true ∧
      querying.link.slots =
        [] ++ { tag := 1, kind := kindConfigurePanel, inHand := true, content := .held panelBody } :: [] ∧
      1 ≤ (1 : Byte).toNat ∧ (254 : Byte).toNat ≤ 254 ∧ (0 : Byte).toNat = 0 ∧ (255 : Byte).toNat = 255 := by
  decide +kernel

/-- The same after a link break has freed the slot. -/
theorem witness_queryFreed :
    (after .linkBreak querying).bus.owner = .query ∧ (after .linkBreak querying).link.work = querying.link.work ∧
      ∀ sl ∈ (after .linkBreak querying).link.slots, sl.inHand = false := by decide +kernel

theorem witness_releasePanel :
    NextRequest (ask kindReleasePanel [0] (withPort (smallPort .idle) twoPlanes)) kindReleasePanel 1 [0] [] [] ∧
      ((ask kindReleasePanel [0] (withPort (smallPort .idle) twoPlanes)).port .a).state = .idle ∧
      ((ask kindReleasePanel [1] (withPort (smallPort .idle) twoPlanes)).port .b).state = .unconfigured ∧
      ((ask kindReleasePanel [0] (withPort (smallPort (.pending .bus)) twoPlanes)).port .a).state = .pending .bus ∧
      ((ask kindReleasePanel [0] streamingA).port .a).state = .streaming (smallSet .fullWave) .update false ∧
      1 < (2 : Byte).toNat := by
  refine ⟨ask_next .., ?_⟩
  decide +kernel

theorem witness_clearFault :
    NextRequest (ask kindClearFault [0] (withPort (smallPort (.fault .busyStuck)) twoPlanes)) kindClearFault 1 [0] [] [] ∧
      ((ask kindClearFault [0] (withPort (smallPort (.fault .busyStuck)) twoPlanes)).port .a).state = .fault .busyStuck ∧
      ((ask kindClearFault [0] (withPort (smallPort .idle) twoPlanes)).port .a).state = .idle ∧
      1 < (2 : Byte).toNat := by
  refine ⟨ask_next .., ?_⟩
  decide +kernel

/-- Section 7.5.2's list, which is full, and a rectangle that ends at the last column and row. -/
theorem witness_merging :
    (let l : List Rect := [⟨0, 0, 40, 16⟩, ⟨48, 0, 40, 16⟩, ⟨96, 0, 40, 16⟩, ⟨144, 0, 40, 16⟩, ⟨0, 24, 40, 16⟩,
      ⟨48, 24, 40, 16⟩, ⟨200, 100, 20, 20⟩, ⟨240, 100, 20, 20⟩]
    l.length ≤ 8 ∧ (∀ e ∈ l, insideArea e 296 128 = true) ∧ l.Pairwise (fun e f => overlaps e f = false)) ∧
      insideArea ⟨288, 120, 8, 8⟩ 296 128 = true ∧ ¬ (⟨288, 120, 8, 8⟩ : Rect) = ⟨0, 0, 296, 128⟩ := by
  refine ⟨⟨?_, ?_, ?_⟩, ?_, ?_⟩ <;> decide

/-- Steps 3 and 5 of R115: a first overlap behind an entry apart; a full list of which the first entry grows least. -/
theorem witness_mergingSteps :
    (overlaps ⟨10, 0, 10, 10⟩ ⟨15, 5, 10, 10⟩ = true ∧ ∀ f ∈ [(⟨100, 0, 8, 8⟩ : Rect)], overlaps ⟨10, 0, 10, 10⟩ f = false) ∧
      (let l : List Rect := (List.range 8).map (fun i => ⟨20 * i, 0, 8, 8⟩)
      8 ≤ l.length ∧ (∀ f ∈ l, overlaps ⟨0, 20, 8, 8⟩ f = false) ∧
        l = [] ++ ⟨0, 0, 8, 8⟩ :: l.tail ∧ ∀ f ∈ l.tail, 8 * 28 - 64 ≤ (f.x + 8) * 28 - 64) ∧
      (overlaps ⟨8, 0, 16, 4⟩ ⟨0, 0, 16, 4⟩ = true ∧ overlaps ⟨16, 0, 8, 4⟩ ⟨0, 0, 16, 4⟩ = false) := by decide

/-- Port A claims a free bus, with damage. -/
def claiming : State := withPort { smallPort (.pending .bus) with damage := [⟨3, 1, 9, 2⟩] } twoPlanes

/-- A claim at a free bus with the lock held, with the line high, with a write hold in the way, and with nothing. -/
theorem witness_grant :
    ¬ streamingA.bus.owner = .none ∧ ({ querying with bus := { owner := .none, last := none } } : State).queryWaits = true ∧
      twoPlanes.queryWaits = false ∧ twoPlanes.claims .a = false ∧ twoPlanes.claims .b = false ∧
      ¬ Port.b = Port.a ∧ claiming.bus.owner = .none ∧ claiming.queryWaits = false ∧ claiming.claims .a = true ∧
      claiming.claims .b = false ∧ claiming.layoutLock = false ∧ claiming.busyLine .a = false ∧
      ({ claiming with layoutLock := true } : State).claims .a = true ∧
      ({ claiming with busyLineA := true } : State).claims .a = true ∧
      ({ claiming with writeHold := some ⟨1, ⟨15, 2, 1, 1⟩⟩ } : State).claims .a = true ∧
      overlaps ⟨15, 2, 1, 1⟩ ⟨0 + 0, 0 + 1, 16, 2⟩ = true := by decide +kernel

theorem witness_windowPixels :
    (streaming .fullWave (.window ⟨0, 0, 16, 2⟩ []) false twoPlanes).bus.owner = .port .a ∧
      ((streaming .fullWave (.window ⟨0, 0, 16, 2⟩ []) false twoPlanes).port .a).state =
        .streaming (smallSet .fullWave) (.window ⟨0, 0, 16, 2⟩ []) false ∧
      ((streaming .fullWave (.pixels ⟨0, 0, 16, 2⟩ 0 [] []) false twoPlanes).port .a).state =
        .streaming (smallSet .fullWave) (.pixels ⟨0, 0, 16, 2⟩ 0 [] []) false ∧ 0 + 1 < 2 ∧ 2 ≤ 1 + 1 ∧
      ((streaming .fullWave (.pixels ⟨0, 0, 16, 2⟩ 1 [] []) true twoPlanes).port .a).state =
        .streaming (smallSet .fullWave) (.pixels ⟨0, 0, 16, 2⟩ 1 [] []) true ∧
      (twoPlanes.plane 1).depth = (smallPort .idle).depth ∧ 16 % 8 = 0 := by decide +kernel

theorem witness_updateAbort :
    streamingA.bus.owner = .port .a ∧ (streamingA.port .a).state = .streaming (smallSet .fullWave) .update false ∧
      ¬ streamingA.link.work = some .fullWaiting ∧
      ((streaming .fullWave .abort true twoPlanes).port .a).state = .streaming (smallSet .fullWave) .abort true ∧
      (idle (busyWith .fullWaiting streamingA)).link.work = some .fullWaiting ∧
      (idle (busyWith .fullWaiting streamingA)).link.sending = none ∧
      ((idle (busyWith .fullWaiting streamingA)).port .b).isStreaming = false := by decide +kernel

/-- Port A with its line high in each of the states the fall reaches. -/
def highLine (r : PortRec) : State := { withPort r twoPlanes with busyLineA := true }

theorem witness_busyLine :
    twoPlanes.busyLine .a = false ∧ (highLine (smallPort .idle)).busyLine .a = true ∧
      ((highLine (smallPort (.settling (smallSet .partialWave) false))).port .a).state =
        .settling (smallSet .partialWave) false ∧
      ((highLine { smallPort (.settling (smallSet .fullWave) false) with again := true, force := true }).port .a).again = true ∧
      ((highLine { smallPort (.settling (smallSet .fullWave) true) with again := true }).port .a).state =
        .settling (smallSet .fullWave) true ∧
      ((highLine (smallPort (.pending .busy))).port .a).state = .pending .busy ∧
      (∀ set mark, ¬ ((highLine (smallPort .idle)).port .a).state = .settling set mark) := by
  refine ⟨by decide, by decide +kernel, by decide +kernel, by decide +kernel, by decide +kernel, by decide +kernel, ?_⟩
  intro set mark h
  cases h

theorem witness_portTimers :
    ((withPort (smallPort (.settling (smallSet .fullWave) false)) twoPlanes).port .a).busyTimer.isRunning = true ∧
      ((withPort (smallPort (.settling (smallSet .fullWave) false)) twoPlanes).port .a).state =
        .settling (smallSet .fullWave) false ∧
      ((withPort (smallPort (.pending .busy)) twoPlanes).port .a).busyTimer.isRunning = true ∧
      ((withPort (smallPort (.settling (smallSet .fullWave) true)) twoPlanes).port .a).again = false ∧
      ((withPort { smallPort .idle with whole := true, holdOffTimer := .running 200 } twoPlanes).port .a).state = .idle ∧
      ((withPort { smallPort .idle with whole := true, holdOffTimer := .running 200 } twoPlanes).port .a).holdOffTimer.isRunning =
        true ∧
      (let r := (withPort { smallPort .idle with holdOffTimer := .running 200 } twoPlanes).port .a
      r.state = .idle ∧ r.damage = [] ∧ r.whole = false ∧ r.holdOffTimer.isRunning = true) := by decide +kernel

/-! ### The invariants: one state, with work in every block, that holds every law -/

/-- A FILL ACTIVE with a MARK behind it, a font, port A SETTLING, and the end of the FILL's row waiting. -/
def inFull : State :=
  { withPort (smallPort (.settling (smallSet .partialWave) false))
      (withJobs [longFill .active, markJob 7] (some ⟨1, ⟨0, 0, 8, 2⟩⟩) (withFont twoPlanes)) with
    pending := [.fillRowEnd] }

theorem witness_step : ∃ t, step inFull = .next t := ⟨_, rfl⟩

theorem witness_storedData : memoryWf inFull.mem ∧ StagingLaw inFull ∧ FontLaw inFull :=
  ⟨by decide +kernel, ⟨by decide +kernel, fun _ => rfl⟩, fontLaw_small _ rfl rfl⟩

theorem witness_linkNotices : NoticeLaw inFull.notices ∧ CacheLaw inFull.link.cache ∧ SlotLaw inFull.link :=
  ⟨⟨by decide, by decide, 1, 1, by decide, by decide, by decide, by decide, by decide, by decide, by decide⟩,
    ⟨by decide, by decide, by decide⟩, by decide, by decide, by decide, by decide⟩

theorem witness_jobEngine : EngineLaw inFull := by
  refine ⟨queueLaw_two _ rfl rfl (by decide), fun h h1 h2 => ?_, fun q h => (by cases h)⟩
  interval_cases h <;> decide +kernel

theorem witness_running : RunningLaw inFull :=
  ⟨by decide +kernel, fun h => (by cases h), by
    intro j hj
    cases hj
    exact ⟨fun _ => rfl, fun h => (by cases h)⟩⟩

/-- A LOAD of 2 bytes with 1 received and drawn, that awaits the other. -/
def halfLoaded : State :=
  { withJobs [{ loadJob .awaitingData with body := .load 1 ⟨0, 0, 8, 2⟩ 10 2 1, rowsDone := 1 }]
      (some ⟨1, ⟨0, 0, 8, 2⟩⟩) twoPlanes with
    dataTimer := .running 500
    pending := [.dataTimeout] }

theorem witness_load : EngineLaw halfLoaded ∧ StagingLaw halfLoaded ∧ LoadLaw halfLoaded := by
  refine ⟨⟨⟨by decide, by decide, ?_, ?_, ?_, ?_, by decide, by decide, fun h => (by cases h)⟩, fun h h1 h2 => ?_,
    fun q h => (by cases h)⟩, ⟨by decide +kernel, fun _ => rfl⟩, ?_, by decide +kernel⟩
  · intro j hj; cases hj; decide
  · intro j hj _; cases List.mem_singleton.mp hj; rfl
  · exact List.pairwise_singleton _ _
  · intro j hj; cases List.mem_singleton.mp hj; decide
  · interval_cases h <;> decide +kernel
  · intro j hj h r fn total got hb
    cases List.mem_singleton.mp hj
    cases hb
    refine ⟨by decide +kernel, by decide, fun _ => by decide +kernel, fun n => absurd rfl n, fun h => (by cases h),
      fun _ => by decide +kernel⟩

theorem outside_free (s : State) (h : Nat) (ho : ¬ (1 ≤ h ∧ h ≤ 24)) : s.plane h = freePlaneRecord := by
  unfold State.plane
  split
  · rw [Vector.getElem?_eq_none (by omega)]; rfl
  · rfl

theorem witness_store : StoreLaw inFull := by
  have ha : inFull.allocated.map (·.extent) ++ inFull.freeList = [⟨0, 1⟩, ⟨1, 1⟩, ⟨2, 1⟩, ⟨3, 1533⟩] := by
    decide +kernel
  have hf : inFull.freeList = [⟨3, 1533⟩] := rfl
  refine ⟨⟨by rw [hf]; decide, by rw [hf]; decide⟩, ⟨by rw [ha]; decide, ?_, ?_⟩, ?_⟩
  · rw [ha]; exact apart_extents _ (by decide)
  · intro b; rw [ha]; simp [blockIn]; omega
  · intro h hr
    by_cases hb : 1 ≤ h ∧ h ≤ 24
    · obtain ⟨h1, h2⟩ := hb
      interval_cases h <;> (exfalso; revert hr; decide +kernel)
    · rw [outside_free _ _ hb] at hr; cases hr

theorem witness_busHolds : BusLaw inFull ∧ HoldLaw inFull :=
  ⟨busLaw_free _ rfl rfl rfl rfl rfl rfl rfl, fun h p _ _ => by cases p <;> (intro r hr; cases hr)⟩

theorem witness_ports : PortsLaw inFull ∧ BindingLaw inFull := by
  refine ⟨⟨⟨fun h => (by cases h), by decide, by decide, by decide, by decide, by decide, by decide, ?_, by decide,
    fun _ h => (by cases h), by decide⟩, portLaw_unconfigured, fun q h => (by cases h)⟩, ?_, ?_, ?_, ?_, ?_, fun q h => (by cases h)⟩
  · intro set mark h
    cases h
    exact ⟨by decide, fun _ _ => by decide⟩
  · intro p hp
    cases p
    · exact ⟨by decide, by decide, by decide +kernel, by decide +kernel, by decide +kernel, by decide +kernel,
        by decide +kernel⟩
    · exact absurd rfl hp
  · intro h p hb
    by_cases ho : 1 ≤ h ∧ h ≤ 24
    · obtain ⟨h1, h2⟩ := ho
      cases p <;> interval_cases h <;> first | (exfalso; revert hb; decide +kernel) | exact ⟨by decide +kernel, rfl⟩
    · rw [outside_free _ _ ho] at hb; cases p <;> cases hb
  · intro h hs
    by_cases ho : 1 ≤ h ∧ h ≤ 24
    · obtain ⟨h1, h2⟩ := ho
      revert hs
      interval_cases h <;> decide +kernel
    · exact outside_free _ _ ho
  · intro h hr
    by_cases ho : 1 ≤ h ∧ h ≤ 24
    · obtain ⟨h1, h2⟩ := ho
      interval_cases h <;> (exfalso; revert hr; decide +kernel)
    · rw [outside_free _ _ ho] at hr; cases hr
  · intro p hp
    cases p
    · cases hp
    · rfl

end Sys2Proof.Tests
end

section
/-! The store manager's NEW_PLANE and FREE_PLANE (R10 to R13): the rules of the tables they use, an equation for each
outcome of their checks, and the two statements assembled from them. -/

namespace Sys2Proof.Machine

/-! ## The free extent list (R4) -/

/-- No extent is long enough, so none is found (R4). -/
theorem allocate_eq_none {l : List Extent} {n : Nat} (h : ∀ e ∈ l, e.count < n) : allocate l n = none := by
  induction l with
  | nil => rfl
  | cons e l ih =>
    obtain ⟨he, hl⟩ := List.forall_mem_cons.mp h
    simp [allocate, Nat.not_le.mpr he, ih hl]

/-- First fit: the extents before the first one that is long enough stay, and the blocks are cut from its start (R4). -/
theorem allocate_firstFit {small : List Extent} {e : Extent} {n : Nat} (hs : ∀ x ∈ small, x.count < n)
    (he : n ≤ e.count) (rest : List Extent) :
    allocate (small ++ e :: rest) n =
      some (e.first, small ++ (if e.count = n then rest else ⟨e.first + n, e.count - n⟩ :: rest)) := by
  induction small with
  | nil => exact if_pos he
  | cons x small ih =>
    obtain ⟨hx, hl⟩ := List.forall_mem_cons.mp hs
    simp [allocate, Nat.not_le.mpr hx, ih hl]

/-! ## The plane records (R5, R6) -/

/-- A record that is not FREE has a handle from 1 to 24. -/
theorem State.handle_of_not_free {s : State} {h : Nat} (hs : ¬ (s.plane h).state = .free) : 1 ≤ h ∧ h ≤ 24 := by
  by_contra out
  exact hs (by rw [s.plane_outside h (by omega)]; rfl)

/-- What the replacement of the record of a handle from 1 changes. -/
theorem State.setPlane_eq (s : State) {h : Nat} (h1 : 1 ≤ h) (p : Plane) :
    s.setPlane h p = { s with planes := s.planes.setIfInBounds (h - 1) p } := if_pos h1

/-- What a release changes: the free extent list and the plane's record (R5, R6). -/
theorem State.releasePlane_eq (s : State) {h : Nat} (h1 : 1 ≤ h) :
    s.releasePlane h =
      { s with
        freeList := releaseExtent s.freeList (s.plane h).extent
        planes := s.planes.setIfInBounds (h - 1) freePlaneRecord } :=
  State.setPlane_eq _ h1 _

/-- The table gives a handle exactly when its record is FREE and no lower one is (R6). -/
theorem State.freeHandle_eq_some {s : State} {k : Nat} :
    s.freeHandle = some k ↔
      (s.plane k).state = .free ∧ (1 ≤ k ∧ k ≤ 24) ∧ ∀ i, 1 ≤ i → i < k → ¬ (s.plane i).state = .free := by
  simp [State.freeHandle, allHandles, Config.maxHandle, List.find?_range'_eq_some, Nat.lt_succ_iff]

/-- The table gives no handle exactly when no record is FREE (R6). -/
theorem State.freeHandle_eq_none {s : State} :
    s.freeHandle = none ↔ ∀ k, 1 ≤ k → k ≤ 24 → ¬ (s.plane k).state = .free := by
  simp [State.freeHandle, allHandles, Config.maxHandle, List.find?_eq_none, Nat.lt_succ_iff]

/-! ## NEW_PLANE, an equation for each outcome (R10, R11) -/

/-- Check 1 of NEW_PLANE, as the ranges of its four fields (R10). -/
theorem newPlaneFieldsOk_iff {width height depth fill : Nat} :
    newPlaneFieldsOk width height depth fill = true ↔
      8 ≤ width ∧ width ≤ 2048 ∧ width % 8 = 0 ∧ 1 ≤ height ∧ height ≤ 2048 ∧
        ((depth = 1 ∧ fill ≤ 1) ∨ (depth = 2 ∧ fill ≤ 3)) := by
  simp [newPlaneFieldsOk, and_assoc]

section NewPlane

variable {w1 w0 h1 h0 d f : Byte} {t : State}

/-- The command carries out the next request, which is a NEW_PLANE, by its rule. -/
theorem NextRequest.exec_newPlane {s u : State} {tag : Byte} {before after : List Slot}
    (hn : NextRequest s kindNewPlane tag [w1, w0, h1, h0, d, f] before after)
    (hu : newPlane [w1, w0, h1, h0, d, f] (s.taken kindNewPlane tag [w1, w0, h1, h0, d, f] before after) = u) :
    exec .newPlane s = .next u.transmit := by
  subst hu
  exact congrArg Host.Outcome.next (hn.serveFixed 6 rfl newPlane)

theorem newPlane_badValue
    (hf : ¬ newPlaneFieldsOk (w1.toNat * 256 + w0.toNat) (h1.toNat * 256 + h0.toNat) d.toNat f.toNat = true) :
    newPlane [w1, w0, h1, h0, d, f] t = t.refuse .badValue :=
  if_pos (Bool.eq_false_iff.mpr hf)

variable (hf : newPlaneFieldsOk (w1.toNat * 256 + w0.toNat) (h1.toNat * 256 + h0.toNat) d.toNat f.toNat = true)
include hf

theorem newPlane_packing (hp : t.packActive = true) :
    newPlane [w1, w0, h1, h0, d, f] t = t.refuse .packing := by
  simp [newPlane, fieldU16, fieldU8, hf, hp]

variable (hp : t.packActive = false)
include hp

theorem newPlane_noHandle (hh : t.freeHandle = none) :
    newPlane [w1, w0, h1, h0, d, f] t = t.refuse .noHandle := by
  simp [newPlane, fieldU16, fieldU8, hf, hp, hh]

theorem newPlane_noSpace {k : Nat} (hh : t.freeHandle = some k)
    (ha : allocate t.freeList
      (planeBlocks (w1.toNat * 256 + w0.toNat) (h1.toNat * 256 + h0.toNat) d.toNat) = none) :
    newPlane [w1, w0, h1, h0, d, f] t = t.noSpace := by
  simp [newPlane, fieldU16, fieldU8, hf, hp, hh, ha]

theorem newPlane_created {k first : Nat} {left : List Extent} (hh : t.freeHandle = some k)
    (ha : allocate t.freeList
      (planeBlocks (w1.toNat * 256 + w0.toNat) (h1.toNat * 256 + h0.toNat) d.toNat) = some (first, left)) :
    newPlane [w1, w0, h1, h0, d, f] t =
      (State.setPlane { t with freeList := left } k
        (newPlaneRecord (w1.toNat * 256 + w0.toNat) (h1.toNat * 256 + h0.toNat) d.toNat first)).occupy
          (.fill k (BitVec.ofNat 2 f.toNat)) := by
  simp [newPlane, fieldU16, fieldU8, hf, hp, hh, ha]

end NewPlane

/-! ## FREE_PLANE, an equation for each outcome (R12, R13) -/

section FreePlane

variable {b : Byte} {t : State}

/-- The command carries out the next request, which is a FREE_PLANE, by its rule. -/
theorem NextRequest.exec_freePlane {s u : State} {tag : Byte} {before after : List Slot}
    (hn : NextRequest s kindFreePlane tag [b] before after)
    (hu : freePlane [b] (s.taken kindFreePlane tag [b] before after) = u) :
    exec .freePlane s = .next u.transmit := by
  subst hu
  exact congrArg Host.Outcome.next (hn.serveFixed 1 rfl freePlane)

theorem freePlane_noSuchPlane (hs : (t.plane b.toNat).state = .free) : freePlane [b] t = t.refuse .noSuchPlane :=
  if_pos hs

theorem freePlane_retiring (hs : (t.plane b.toNat).state = .retiring) : freePlane [b] t = t.refuse .retiring := by
  simp [freePlane, fieldU8, hs]

variable (hs : (t.plane b.toNat).state = .live)
include hs

theorem freePlane_inUse (hb : (t.plane b.toNat).boundA = true ∨ (t.plane b.toNat).boundB = true) :
    freePlane [b] t = t.refuse .inUse := by
  simp [freePlane, fieldU8, hs, hb]

variable (hb : ¬ ((t.plane b.toNat).boundA = true ∨ (t.plane b.toNat).boundB = true))
include hb

theorem freePlane_packing (hp : t.packActive = true) : freePlane [b] t = t.refuse .packing := by
  simp [freePlane, fieldU8, hs, hb, hp]

variable (hp : t.packActive = false)
include hp

theorem freePlane_released (hr : (t.plane b.toNat).refCount = 0) :
    freePlane [b] t = (t.releasePlane b.toNat).confirm := by
  simp [freePlane, fieldU8, hs, hb, hp, hr]

theorem freePlane_deferred (hr : 0 < (t.plane b.toNat).refCount) :
    freePlane [b] t =
      (t.setPlane b.toNat { t.plane b.toNat with state := .retiring }).answer
        { status := .deferred, items := itemU8 (t.plane b.toNat).refCount } := by
  simp [freePlane, fieldU8, hs, hb, hp, Nat.ne_of_gt hr]

end FreePlane

/-! ## The statements -/

/-- Settles O17: the first check that fails, or none, says which equation of NEW_PLANE the request meets. -/
theorem newPlaneIsCheckedAndCreated : Obligations.NewPlaneIsCheckedAndCreated := by
  intro s tag w1 w0 h1 h0 d f before after hn
  simp only [← newPlaneFieldsOk_iff]
  refine ⟨fun bad => ?_, fun ok hp => ?_, fun ok hp => ⟨fun full => ?_, fun ⟨k, k1, k24, kf⟩ short => ?_, ?_⟩⟩
  · rw [hn.exec_newPlane (newPlane_badValue bad), hn.refuse]
  · rw [hn.exec_newPlane (newPlane_packing ok hp), hn.refuse]
  · rw [hn.exec_newPlane (newPlane_noHandle ok hp (State.freeHandle_eq_none.mpr full)), hn.refuse]
  · obtain ⟨j, hj⟩ := Option.ne_none_iff_exists'.mp (fun full => State.freeHandle_eq_none.mp full k k1 k24 kf)
    rw [hn.exec_newPlane (newPlane_noSpace ok hp hj (allocate_eq_none short)), State.noSpace, hn.answerAtOnce]
    rfl
  · intro k small e rest k1 k24 kf lowest list hs he
    have handle : s.freeHandle = some k := State.freeHandle_eq_some.mpr ⟨kf, ⟨k1, k24⟩, lowest⟩
    have fit := allocate_firstFit hs he rest
    rw [← list] at fit
    rw [hn.exec_newPlane (newPlane_created (t := s.taken ..) ok hp handle fit), State.setPlane_eq _ k1]
    rfl

/-- Settles O19: the first check that fails, or none, says which equation of FREE_PLANE the request meets. -/
theorem freePlaneIsCheckedInOrder : Obligations.FreePlaneIsCheckedInOrder := by
  intro s tag b before after hn
  have handle (hs : (s.plane b.toNat).state = .live) : 1 ≤ b.toNat := by
    have live : ¬ (s.plane b.toNat).state = .free := by simp [hs]
    exact (State.handle_of_not_free live).1
  refine ⟨fun out => ?_, fun hs => ?_, fun hs => ?_, fun hs hb => ?_, fun hs hb hp => ?_, fun hs hb hp hr => ?_,
    fun hs hb hp hr => ?_⟩
  · show (s.plane b.toNat).state = .free
    rw [s.plane_outside b.toNat out]
    rfl
  · rw [hn.exec_freePlane (freePlane_noSuchPlane hs), hn.refuse]
  · rw [hn.exec_freePlane (freePlane_retiring hs), hn.refuse]
  · rw [hn.exec_freePlane (freePlane_inUse hs hb), hn.refuse]
  · rw [hn.exec_freePlane (freePlane_packing hs hb hp), hn.refuse]
  · rw [hn.exec_freePlane (freePlane_released hs hb hp hr), State.releasePlane_eq _ (handle hs), State.confirm,
      hn.answer] <;> rfl
  · rw [hn.exec_freePlane (freePlane_deferred hs hb hp hr), State.setPlane_eq _ (handle hs), hn.answer] <;> rfl

end Sys2Proof.Machine
end

section
/-! The font unit's NEW_FONT and DROP_FONT (R89, R90, R93): the rules of what they test and change, an equation for each
outcome of their checks, and the two statements assembled from them. -/

namespace Sys2Proof.Machine

/-! ## Items and fields -/

/-- An item of 1 byte that repeats a field of 1 byte is that byte. -/
theorem itemU8_toNat (b : Byte) : itemU8 b.toNat = [b] := by
  simp [itemU8]

/-! ## NEW_FONT, an equation for each outcome (R89, R90) -/

section NewFont

variable {i n lh c1 c0 : Byte} {t : State}

/-- The command carries out the next request, which is a NEW_FONT, by its rule. -/
theorem NextRequest.exec_newFont {s u : State} {tag : Byte} {before after : List Slot}
    (hn : NextRequest s kindNewFont tag [i, n, lh, c1, c0] before after)
    (hu : newFont [i, n, lh, c1, c0] (s.taken kindNewFont tag [i, n, lh, c1, c0] before after) = u) :
    exec .newFont s = .next u.transmit := by
  subst hu
  exact congrArg Host.Outcome.next (hn.serveFixed 5 rfl newFont)

theorem newFont_badValue (hr : ¬ (i.toNat ≤ 3 ∧ 1 ≤ n.toNat ∧ n.toNat ≤ 64 ∧ 1 ≤ lh.toNat)) :
    newFont [i, n, lh, c1, c0] t = t.refuse .badValue :=
  if_pos hr

variable (hr : i.toNat ≤ 3 ∧ 1 ≤ n.toNat ∧ n.toNat ≤ 64 ∧ 1 ≤ lh.toNat)
include hr

theorem newFont_packing (hp : t.packActive = true) : newFont [i, n, lh, c1, c0] t = t.refuse .packing := by
  simp [newFont, fieldU8, hr, hp]

variable (hp : t.packActive = false)
include hp

theorem newFont_fontExists (hf : (t.font i.toNat).state = .defined) :
    newFont [i, n, lh, c1, c0] t = t.refuse .fontExists := by
  simp [newFont, fieldU8, hr, hp, hf]

variable (hf : (t.font i.toNat).state = .undefined)
include hf

theorem newFont_noSpace (ha : allocate t.freeList n.toNat = none) : newFont [i, n, lh, c1, c0] t = t.noSpace := by
  simp [newFont, fieldU8, hr, hp, hf, ha]

theorem newFont_defined {first : Nat} {left : List Extent} (ha : allocate t.freeList n.toNat = some (first, left)) :
    newFont [i, n, lh, c1, c0] t =
      (State.setFont { t with freeList := left } i.toNat
        (newFontRecord first n.toNat lh.toNat (c1.toNat * 256 + c0.toNat))).answer
          { status := .ok, items := [i] ++ itemU16 first ++ [n] } := by
  simp [newFont, fieldU16, fieldU8, hr, hp, hf, ha, itemU8_toNat]

end NewFont

/-! ## What DROP_FONT tests and changes (R93) -/

/-- The TEXT job that keeps a font from being dropped is the head of the queue, and ACTIVE (R93). -/
theorem State.textUses_iff {s : State} {id : Nat} :
    s.textUses id = true ↔
      ∃ j rest h pen base ink fn codes, s.jobs = j :: rest ∧ j.state = .active ∧
        j.body = .text h id pen base ink fn codes := by
  unfold State.textUses
  cases s.jobs with
  | nil => simp
  | cons j rest =>
    cases hb : j.body <;> simp [hb]

/-- What a drop changes: the glyph index, the free extent list and the font's record (R93). -/
theorem State.dropFont_eq (s : State) (id : Nat) :
    s.dropFont id =
      { s with
        glyphs := s.glyphs.filter (fun g => decide (¬ g.font = id))
        freeList := releaseExtent s.freeList (s.font id).extent
        fonts := s.fonts.setIfInBounds id undefinedFont } := by
  simp [State.dropFont, State.setFont, beq_eq_decide]

/-! ## DROP_FONT, an equation for each outcome (R93) -/

section DropFont

variable {i : Byte} {t : State}

/-- The command carries out the next request, which is a DROP_FONT, by its rule. -/
theorem NextRequest.exec_dropFont {s u : State} {tag : Byte} {before after : List Slot}
    (hn : NextRequest s kindDropFont tag [i] before after)
    (hu : dropFontRequest [i] (s.taken kindDropFont tag [i] before after) = u) :
    exec .dropFont s = .next u.transmit := by
  subst hu
  exact congrArg Host.Outcome.next (hn.serveFixed 1 rfl dropFontRequest)

theorem dropFontRequest_badValue (hi : ¬ i.toNat ≤ 3) : dropFontRequest [i] t = t.refuse .badValue :=
  if_pos hi

variable (hi : i.toNat ≤ 3)
include hi

theorem dropFontRequest_noSuchFont (hf : (t.font i.toNat).state = .undefined) :
    dropFontRequest [i] t = t.refuse .noSuchFont := by
  simp [dropFontRequest, fieldU8, hi, hf]

variable (hf : (t.font i.toNat).state = .defined)
include hf

theorem dropFontRequest_packing (hp : t.packActive = true) : dropFontRequest [i] t = t.refuse .packing := by
  simp [dropFontRequest, fieldU8, hi, hf, hp]

variable (hp : t.packActive = false)
include hp

theorem dropFontRequest_inUse (hu : t.textUses i.toNat = true) : dropFontRequest [i] t = t.refuse .inUse := by
  simp [dropFontRequest, fieldU8, hi, hf, hp, hu]

theorem dropFontRequest_dropped (hu : ¬ t.textUses i.toNat = true) :
    dropFontRequest [i] t =
      (t.dropFont i.toNat).answer
        { status := .ok, items := [i] ++ itemU16 (t.glyphs.filter (fun g => decide (g.font = i.toNat))).length } := by
  simp [dropFontRequest, fieldU8, hi, hf, hp, hu, itemU8_toNat, beq_eq_decide]

end DropFont

/-! ## The statements -/

/-- Settles O42: the first check that fails, or none, says which equation of NEW_FONT the request meets. -/
theorem newFontIsCheckedInOrder : Obligations.NewFontIsCheckedInOrder := by
  intro s tag i n lh c1 c0 before after hn
  refine ⟨fun bad => ?_, fun ok hp => ?_, fun ok hp => ⟨fun hf => ?_, fun hf => ⟨fun short => ?_, ?_⟩⟩⟩
  · rw [hn.exec_newFont (newFont_badValue bad), hn.refuse]
  · rw [hn.exec_newFont (newFont_packing ok hp), hn.refuse]
  · rw [hn.exec_newFont (newFont_fontExists ok hp hf), hn.refuse]
  · rw [hn.exec_newFont (newFont_noSpace ok hp hf (allocate_eq_none short)), State.noSpace, hn.answerAtOnce]
    rfl
  · intro small e rest list hs he
    have fit := allocate_firstFit hs he rest
    rw [← list] at fit
    rw [hn.exec_newFont (newFont_defined (t := s.taken ..) ok hp hf fit), hn.answer] <;> rfl

/-- Settles O44: the first check that fails, or none, says which equation of DROP_FONT the request meets. -/
theorem dropFontIsCheckedInOrder : Obligations.DropFontIsCheckedInOrder := by
  intro s tag i before after hn
  simp only [← State.textUses_iff]
  refine ⟨fun out => ?_, fun hi hf => ?_, fun hi hf => ⟨fun hp => ?_, fun hp hu => ?_, fun hp hu => ?_⟩⟩
  · rw [hn.exec_dropFont (dropFontRequest_badValue (Nat.not_le.mpr out)), hn.refuse]
  · rw [hn.exec_dropFont (dropFontRequest_noSuchFont hi hf), hn.refuse]
  · rw [hn.exec_dropFont (dropFontRequest_packing hi hf hp), hn.refuse]
  · rw [hn.exec_dropFont (dropFontRequest_inUse hi hf hp hu), hn.refuse]
  · rw [hn.exec_dropFont (dropFontRequest_dropped hi hf hp hu), State.dropFont_eq, hn.answer] <;> rfl

end Sys2Proof.Machine
end

section
/-! The panel ports' RELEASE_PANEL and CLEAR_FAULT (R110, R111): the rules of what they test and change, an equation for
each outcome of their checks, and the statement assembled from them. -/

namespace Sys2Proof.Machine

/-! ## Changes made with a request in hand (R157) -/

section Taken

variable {kind tag : Byte} {body : List Byte} {before after : List Slot}

/-- A plane's record is replaced alike before and after a request is taken in hand. -/
theorem State.setPlane_taken (s : State) (h : Nat) (pl : Plane) :
    (s.taken kind tag body before after).setPlane h pl = (s.setPlane h pl).taken kind tag body before after := by
  unfold State.setPlane
  split <;> rfl

/-- A port's record is replaced alike before and after a request is taken in hand. -/
theorem State.setPort_taken (s : State) (p : Port) (r : PortRec) :
    (s.taken kind tag body before after).setPort p r = (s.setPort p r).taken kind tag body before after := by
  cases p <;> rfl

/-- The reply of a rule whose changes are those of a state in which the request is in hand. -/
theorem NextRequest.answerTaken {s : State} (h : NextRequest s kind tag body before after) (u : State) (r : Reply) :
    (u.taken kind tag body before after).answer r = u.replied kind tag r before after :=
  answer_eq r h.noneInHand rfl

end Taken

/-! ## Codes (Table 11-4) -/

/-- The bytes that stand for a port. -/
theorem portOfCode_eq_some {b : Byte} {p : Port} (h : (b = 0 ∧ p = .a) ∨ (b = 1 ∧ p = .b)) :
    portOfCode b.toNat = some p := by
  obtain ⟨rfl, rfl⟩ | ⟨rfl, rfl⟩ := h <;> rfl

/-- A byte above 1 stands for no port. -/
theorem portOfCode_eq_none {b : Byte} (h : 1 < b.toNat) : portOfCode b.toNat = none := by
  have h0 : ¬ b.toNat = 0 := by omega
  have h1 : ¬ b.toNat = 1 := by omega
  simp only [portOfCode, h0, h1, if_false]

/-- An item that reports a port is the byte the port was named by. -/
theorem itemU8_portCode {b : Byte} {p : Port} (h : portOfCode b.toNat = some p) : itemU8 (portCode p) = [b] := by
  have code : portCode p = b.toNat := by
    unfold portOfCode at h
    split at h
    case isTrue h0 => cases h; exact h0.symm
    case isFalse =>
      split at h
      case isTrue h1 => cases h; exact h1.symm
      case isFalse => cases h
  rw [code, itemU8_toNat]

/-- The item that reports a fault cause. -/
theorem itemU8_faultCause (c : FaultCause) : itemU8 c.code = [if c = .busyStuck then 1 else 2] := by
  cases c <;> rfl

/-! ## A port's record (Table 7-1) -/

/-- A port is busy in PENDING, STREAMING and SETTLING. -/
theorem PortRec.busy_iff {r : PortRec} :
    r.busy = true ↔
      (∃ w, r.state = .pending w) ∨ (∃ set cmd mark, r.state = .streaming set cmd mark) ∨
        ∃ set mark, r.state = .settling set mark := by
  unfold PortRec.busy
  cases r.state <;> simp

/-- An IDLE or FAULT port is configured and not busy. -/
theorem PortRec.settled {r : PortRec} (h : r.state = .idle ∨ ∃ c, r.state = .fault c) :
    ¬ r.state = .unconfigured ∧ r.busy = false := by
  unfold PortRec.busy
  obtain h | ⟨c, h⟩ := h <;> simp [h]

/-- A busy port is configured. -/
theorem PortRec.configured_of_busy {r : PortRec} (h : r.busy = true) : ¬ r.state = .unconfigured := by
  intro hs
  simp [PortRec.busy, hs] at h

/-- Damage is present in the list or as the whole flag (R113). -/
theorem PortRec.damagePresent_iff {r : PortRec} : r.damagePresent = true ↔ ¬ r.damage = [] ∨ r.whole = true := by
  simp [PortRec.damagePresent, or_comm]

/-- The replacement of a port's record, by the port's name. -/
theorem State.setPort_eq (s : State) (p : Port) (r : PortRec) :
    s.setPort p r = if p = .a then { s with portA := r } else { s with portB := r } := by
  cases p <;> rfl

/-! ## Bindings (R9) -/

/-- The bindings of a plane a port has left. -/
theorem Plane.setBound_false (pl : Plane) (p : Port) :
    pl.setBound p false =
      { pl with
        boundA := if p = .a then false else pl.boundA
        boundB := if p = .b then false else pl.boundB } := by
  cases p <;> rfl

/-- Leaving a plane's bindings replaces that plane's record; a port bound to none has no record to replace. -/
theorem State.unbind_eq (s : State) (p : Port) :
    s.unbind p = s.setPlane (s.port p).boundPlane ((s.plane (s.port p).boundPlane).setBound p false) := by
  unfold State.unbind State.setPlane
  by_cases h : (s.port p).boundPlane = 0 <;> simp [h]

/-- A port leaves its plane's bindings alike before and after a request is taken in hand. -/
theorem State.unbind_taken (s : State) (p : Port) {kind tag : Byte} {body : List Byte} {before after : List Slot} :
    (s.taken kind tag body before after).unbind p = (s.unbind p).taken kind tag body before after := by
  simp only [State.unbind_eq, State.taken_port, State.taken_plane, State.setPlane_taken]

/-- The planes after a port has left its plane's bindings. -/
theorem State.plane_unbind (s : State) (p : Port) {h : Nat} (h1 : 1 ≤ h) (h24 : h ≤ 24) :
    (s.unbind p).plane h =
      { s.plane h with
        boundA := if p = .a ∧ h = (s.port p).boundPlane then false else (s.plane h).boundA
        boundB := if p = .b ∧ h = (s.port p).boundPlane then false else (s.plane h).boundB } := by
  rw [State.unbind_eq]
  by_cases hb : h = (s.port p).boundPlane
  · rw [← hb, State.plane_setPlane s h h _ h1 h24, if_pos rfl, Plane.setBound_false]
    simp only [and_true]
  · have other : (s.setPlane (s.port p).boundPlane ((s.plane (s.port p).boundPlane).setBound p false)).plane h =
        s.plane h := by
      by_cases inTable : 1 ≤ (s.port p).boundPlane ∧ (s.port p).boundPlane ≤ 24
      · obtain ⟨k1, k24⟩ := inTable
        rw [State.plane_setPlane s h _ _ k1 k24, if_neg hb]
      · exact State.plane_setPlane_outside s h _ _ (by omega)
    simp only [other, hb, and_false, if_false]

/-- Leaving a plane's bindings changes no port. -/
theorem State.port_unbind (s : State) (p o : Port) : (s.unbind p).port o = s.port o := by
  rw [State.unbind_eq]
  exact State.port_congr (State.setPlane_portA ..) (State.setPlane_portB ..) o

/-- A port's release changes the plane table and the ports at most. -/
theorem State.release_frame (s : State) (p : Port) (r : PortRec) :
    (s.unbind p).setPort p r =
      { s with
        planes := ((s.unbind p).setPort p r).planes
        portA := ((s.unbind p).setPort p r).portA
        portB := ((s.unbind p).setPort p r).portB } := by
  rw [State.unbind_eq]
  unfold State.setPlane
  split <;> cases p <;> rfl

/-! ## RELEASE_PANEL, an equation for each outcome (R110) -/

section ReleasePanel

variable {b : Byte} {t : State} {p : Port}

/-- The command carries out the next request, which is a RELEASE_PANEL, by its rule. -/
theorem NextRequest.exec_releasePanel {s u : State} {tag : Byte} {before after : List Slot}
    (hn : NextRequest s kindReleasePanel tag [b] before after)
    (hu : releasePanel [b] (s.taken kindReleasePanel tag [b] before after) = u) :
    exec .releasePanel s = .next u.transmit := by
  subst hu
  exact congrArg Host.Outcome.next (hn.serveFixed 1 rfl releasePanel)

theorem releasePanel_badValue (hp : portOfCode b.toNat = none) : releasePanel [b] t = t.refuse .badValue := by
  simp [releasePanel, fieldU8, hp]

variable (hp : portOfCode b.toNat = some p)
include hp

theorem releasePanel_notConfigured (hs : (t.port p).state = .unconfigured) :
    releasePanel [b] t = t.refuse .notConfigured := by
  simp [releasePanel, fieldU8, hp, hs]

theorem releasePanel_portBusy (hb : (t.port p).busy = true) : releasePanel [b] t = t.refuse .portBusy := by
  simp [releasePanel, fieldU8, hp, PortRec.configured_of_busy hb, hb]

theorem releasePanel_released (hs : ¬ (t.port p).state = .unconfigured) (hb : (t.port p).busy = false) :
    releasePanel [b] t = ((t.unbind p).setPort p unconfiguredPort).confirm := by
  simp [releasePanel, fieldU8, hp, hs, hb]

end ReleasePanel

/-! ## CLEAR_FAULT, an equation for each outcome (R111) -/

/-- The record of a port that leaves FAULT. -/
theorem PortRec.cleared_eq (r : PortRec) :
    r.cleared =
      { r with
        state := .idle
        holdOffTimer :=
          if r.mode = .auto ∧ (¬ r.damage = [] ∨ r.whole = true) then .running r.holdOff else .stopped } := by
  simp only [PortRec.cleared, PortRec.damagePresent_iff]

section ClearFault

variable {b : Byte} {t : State} {p : Port}

/-- The command carries out the next request, which is a CLEAR_FAULT, by its rule. -/
theorem NextRequest.exec_clearFault {s u : State} {tag : Byte} {before after : List Slot}
    (hn : NextRequest s kindClearFault tag [b] before after)
    (hu : clearFault [b] (s.taken kindClearFault tag [b] before after) = u) :
    exec .clearFault s = .next u.transmit := by
  subst hu
  exact congrArg Host.Outcome.next (hn.serveFixed 1 rfl clearFault)

theorem clearFault_badValue (hp : portOfCode b.toNat = none) : clearFault [b] t = t.refuse .badValue := by
  simp [clearFault, fieldU8, hp]

variable (hp : portOfCode b.toNat = some p)
include hp

theorem clearFault_notInFault (hs : ∀ c, ¬ (t.port p).state = .fault c) :
    clearFault [b] t = t.refuse .notInFault := by
  cases state : (t.port p).state with
  | fault c => exact absurd state (hs c)
  | _ => simp [clearFault, fieldU8, hp, state]

theorem clearFault_cleared {c : FaultCause} (hs : (t.port p).state = .fault c) :
    clearFault [b] t =
      (t.setPort p (t.port p).cleared).answer
        { status := .ok, items := [b, if c = .busyStuck then 1 else 2] } := by
  simp [clearFault, fieldU8, hp, hs, itemU8_portCode hp, itemU8_faultCause]

end ClearFault

/-! ## The statement -/

/-- RELEASE_PANEL on the port a byte names: its state says which equation the request meets. -/
theorem NextRequest.releasePanel_port {s : State} {tag b : Byte} {before after : List Slot} {p : Port}
    (hn : NextRequest s kindReleasePanel tag [b] before after) (hp : portOfCode b.toNat = some p) :
    ((s.port p).state = .unconfigured →
      exec .releasePanel s =
        .next (s.replied kindReleasePanel tag { status := .notConfigured, items := [] } before after).transmit) ∧
    ((s.port p).busy = true →
      exec .releasePanel s =
        .next (s.replied kindReleasePanel tag { status := .portBusy, items := [] } before after).transmit) ∧
    ((s.port p).state = .idle ∨ (∃ c, (s.port p).state = .fault c) →
      exec .releasePanel s =
        .next (((s.unbind p).setPort p unconfiguredPort).replied kindReleasePanel tag
          { status := .ok, items := [] } before after).transmit) := by
  refine ⟨fun hs => ?_, fun hb => ?_, fun hs => ?_⟩
  · rw [hn.exec_releasePanel (releasePanel_notConfigured hp (by rwa [State.taken_port])), hn.refuse]
  · rw [hn.exec_releasePanel (releasePanel_portBusy hp (by rwa [State.taken_port])), hn.refuse]
  · obtain ⟨configured, quiet⟩ := PortRec.settled hs
    rw [hn.exec_releasePanel
        (releasePanel_released hp (by rwa [State.taken_port]) (by rwa [State.taken_port])),
      State.unbind_taken, State.setPort_taken, State.confirm, hn.answerTaken]
    rfl

/-- Settles O47: the port the byte names, if any, and its state say which equation the request meets. -/
theorem portIsReleasedOrItsFaultCleared : Obligations.PortIsReleasedOrItsFaultCleared := by
  refine ⟨fun s tag b before after hn => ⟨fun out => ?_, fun p named => ?_⟩,
    fun s tag b before after hn => ⟨fun out => ?_, fun p named => ⟨fun hs => ?_, fun c hs => ?_⟩⟩⟩
  · rw [hn.exec_releasePanel (releasePanel_badValue (portOfCode_eq_none out)), hn.refuse]
  · obtain ⟨unconfigured, busy, settled⟩ := hn.releasePanel_port (portOfCode_eq_some named)
    refine ⟨unconfigured, fun pending => busy (PortRec.busy_iff.mpr (.inl pending)),
      fun streaming => busy (PortRec.busy_iff.mpr (.inr (.inl streaming))),
      fun settling => busy (PortRec.busy_iff.mpr (.inr (.inr settling))), fun hs => ?_⟩
    refine ⟨(s.unbind p).setPort p unconfiguredPort, settled hs, State.release_frame s p _, ?_, fun o ho => ?_,
      fun h h1 h24 => ?_⟩
    · rw [State.port_setPort, if_pos rfl]
      rfl
    · rw [State.port_setPort, if_neg ho, State.port_unbind]
    · rw [State.plane_congr (State.setPort_planes ..), State.plane_unbind s p h1 h24]
  · rw [hn.exec_clearFault (clearFault_badValue (portOfCode_eq_none out)), hn.refuse]
  · rw [hn.exec_clearFault (clearFault_notInFault (portOfCode_eq_some named) (by rwa [State.taken_port])), hn.refuse]
  · rw [hn.exec_clearFault (clearFault_cleared (portOfCode_eq_some named) (by rwa [State.taken_port])),
      State.taken_port, State.setPort_taken, hn.answerTaken, PortRec.cleared_eq, State.setPort_eq]

end Sys2Proof.Machine
end

section
/-! The notice unit's ACK and RESYNC (R145, R147): the rules of the queue they use, an equation for each outcome, and
the two statements assembled from them. -/

namespace Sys2Proof.Machine

/-! ## The notice queue (R139, R145, R147) -/

/-- The notice that an ACK of a number looks for. -/
theorem Notice.outstandingAs_iff {n : Notice} {b : BitVec 8} :
    n.outstandingAs b = true ↔ n.state = .outstanding ∧ n.seq = some b := by
  simp [Notice.outstandingAs, Notice.isOutstanding]

/-- The number of no OUTSTANDING notice leaves nothing to acknowledge (R145). -/
theorem afterAcked_eq_none {b : BitVec 8} {q : List Notice} (h : ∀ m ∈ q, ¬ (m.state = .outstanding ∧ m.seq = some b)) :
    afterAcked b q = none := by
  induction q with
  | nil => rfl
  | cons n q ih =>
    obtain ⟨hn, hq⟩ := List.forall_mem_cons.mp h
    rw [afterAcked, if_neg (mt Notice.outstandingAs_iff.mp hn), ih hq]

/-- The notices behind the first OUTSTANDING one with the number are those that stay (R145). -/
theorem afterAcked_split {b : BitVec 8} {gone left : List Notice} {n : Notice}
    (hg : ∀ m ∈ gone, ¬ (m.state = .outstanding ∧ m.seq = some b)) (hn : n.state = .outstanding ∧ n.seq = some b) :
    afterAcked b (gone ++ n :: left) = some left := by
  induction gone with
  | nil => exact if_pos (Notice.outstandingAs_iff.mpr hn)
  | cons m gone ih =>
    obtain ⟨hm, hg⟩ := List.forall_mem_cons.mp hg
    rw [List.cons_append, afterAcked, if_neg (mt Notice.outstandingAs_iff.mp hm), ih hg]

/-- The number of the oldest OUTSTANDING notice, by the list of the OUTSTANDING ones (R145). -/
theorem oldestOutstanding_eq (q : List Notice) :
    oldestOutstanding q = ((q.filter Notice.isOutstanding).head?.bind (·.seq)).getD 0 := by
  rw [List.head?_filter, oldestOutstanding]
  cases q.find? Notice.isOutstanding <;> rfl

/-- A notice as RESYNC leaves it (R147). -/
def Notice.returned (n : Notice) : Notice :=
  if n.state = .outstanding then { n with state := .waiting, resendDue := false } else n

/-- RESYNC leaves no notice OUTSTANDING (R147). -/
theorem Notice.returned_isWaiting (n : Notice) : n.returned.isWaiting = true := by
  unfold Notice.returned Notice.isWaiting
  cases hs : n.state <;> simp [hs]

/-- A notice keeps its number in RESYNC (R147). -/
theorem Notice.returned_seq (n : Notice) : n.returned.seq = n.seq := by
  unfold Notice.returned
  split <;> rfl

/-- The unit after RESYNC, its queue notice by notice (R147). -/
theorem NoticeUnit.resynced_eq (u : NoticeUnit) :
    u.resynced =
      { u with queue := u.queue.map Notice.returned, retries := 0, state := .sending, timer := .stopped } := by
  have returned (n : Notice) :
      (if n.isOutstanding then { n with state := .waiting, resendDue := false } else n) = n.returned := by
    simp only [Notice.isOutstanding, decide_eq_true_eq, Notice.returned]
  simp only [NoticeUnit.resynced, returned]

/-- After RESYNC every notice is WAITING, so the next frame is the oldest notice's, under the number it kept or else
the counter's (R142, R147). -/
theorem NoticeUnit.nextNumber_resynced (u : NoticeUnit) :
    u.resynced.nextNumber = (u.queue.head?.bind (·.seq)).getD u.counter := by
  rw [NoticeUnit.resynced_eq, NoticeUnit.nextNumber]
  cases u.queue with
  | nil => rfl
  | cons n q =>
    have first : (n.returned :: q.map Notice.returned).find? Notice.isWaiting = some n.returned :=
      List.find?_cons_of_pos n.returned_isWaiting
    simp [first, NoticeUnit.numberFor, Notice.returned_seq]

/-! ## ACK, an equation for each outcome (R145) -/

section Ack

variable {b : Byte} {t : State}

/-- The command carries out the next request, which is an ACK, by its rule. -/
theorem NextRequest.exec_ack {s u : State} {tag : Byte} {before after : List Slot}
    (hn : NextRequest s kindAck tag [b] before after)
    (hu : ackRequest [b] (s.taken kindAck tag [b] before after) = u) :
    exec .ack s = .next u.transmit := by
  subst hu
  exact congrArg Host.Outcome.next (hn.serveFixed 1 rfl ackRequest)

/-- The number an ACK names is the byte of its body. -/
theorem ofNat_fieldU8 (b : Byte) : BitVec.ofNat 8 (fieldU8 [b] 0) = b := by
  simp [fieldU8]

theorem ackRequest_acked {gone left : List Notice} {n : Notice} (hq : t.notices.queue = gone ++ n :: left)
    (hn : n.state = .outstanding ∧ n.seq = some b)
    (hg : ∀ m ∈ gone, ¬ (m.state = .outstanding ∧ m.seq = some b)) :
    ackRequest [b] t =
      State.answer { t with notices := t.notices.acked left }
        { status := .ok, items := itemU8 (gone.length + 1) ++ itemU8 (outstandingCount left) } := by
  have removed : (gone ++ n :: left).length - left.length = gone.length + 1 := by
    simp only [List.length_append, List.length_cons]
    omega
  simp only [ackRequest, ofNat_fieldU8, hq, afterAcked_split hg hn, removed]

theorem ackRequest_badAck (hq : ∀ m ∈ t.notices.queue, ¬ (m.state = .outstanding ∧ m.seq = some b)) :
    ackRequest [b] t =
      t.answer
        { status := .badAck,
          items := [oldestOutstanding t.notices.queue] ++ itemU8 (outstandingCount t.notices.queue) } := by
  simp only [ackRequest, ofNat_fieldU8, afterAcked_eq_none hq]

end Ack

/-! ## RESYNC (R147) -/

/-- The command carries out the next request, which is a RESYNC. -/
theorem NextRequest.exec_resync {s : State} {tag : Byte} {before after : List Slot}
    (hn : NextRequest s kindResync tag [] before after) :
    exec .resync s = .next (resync [] (s.taken kindResync tag [] before after)).transmit :=
  congrArg Host.Outcome.next (hn.serveFixed 0 rfl resync)

theorem resync_eq (t : State) :
    resync [] t =
      State.answer { t with notices := t.notices.resynced }
        { status := .ok,
          items := [(t.notices.queue.head?.bind (·.seq)).getD t.notices.counter] ++
            itemU8 t.notices.queue.length } := by
  rw [resync, NoticeUnit.nextNumber_resynced]

/-! ## The statements -/

/-- Settles O14: whether an OUTSTANDING notice has the number says which equation the request meets. -/
theorem ackRemovesThroughItsNumber : Obligations.AckRemovesThroughItsNumber := by
  intro s tag b before after hn
  refine ⟨fun gone n left hq hs hb hg => ?_, fun hq => ?_⟩
  · rw [hn.exec_ack (ackRequest_acked hq ⟨hs, hb⟩ hg), hn.answer] <;> rfl
  · rw [hn.exec_ack (ackRequest_badAck hq), hn.answerAtOnce, oldestOutstanding_eq]
    rfl

/-- Settles O15: every notice is WAITING after RESYNC, so the number reported is that of the head of the queue. -/
theorem resyncReturnsNoticesToWaiting : Obligations.ResyncReturnsNoticesToWaiting := by
  intro s tag before after hn
  rw [hn.exec_resync, resync_eq, NoticeUnit.resynced_eq, hn.answer] <;> rfl

end Sys2Proof.Machine
end

section
/-! The host link's PING, UNKNOWN_KIND and the kinds of a fixed body length (R158, R160, Table 11-2): the fixed-length
kinds as one table that `exec` is read against, an equation for each outcome, and the statement assembled from them. -/

namespace Sys2Proof.Machine

/-! ## The kinds of a fixed body length (R158, Table 11-2) -/

/-- A request command whose kind has a fixed body length, with the rule that reads a body of that length. -/
structure FixedLengthRule where
  command : Instr
  kind : Byte
  length : Nat
  rule : List Byte → State → State

/-- The command with its row of Table 11-2: the code of its kind and the length of its body. -/
def FixedLengthRule.row (r : FixedLengthRule) : Instr × Nat × Nat := (r.command, r.kind.toNat, r.length)

/-- Every request command of a fixed body length, in the order of Table 11-2. -/
def fixedLengthRules : List FixedLengthRule :=
  [⟨.reset, kindReset, 1, resetRequest⟩, ⟨.ack, kindAck, 1, ackRequest⟩, ⟨.resync, kindResync, 0, resync⟩,
   ⟨.newPlane, kindNewPlane, 6, newPlane⟩, ⟨.freePlane, kindFreePlane, 1, freePlane⟩,
   ⟨.planeInfo, kindPlaneInfo, 1, planeInfo⟩, ⟨.storeInfo, kindStoreInfo, 0, storeInfo⟩,
   ⟨.setPattern, kindSetPattern, 17, setPattern⟩, ⟨.getPattern, kindGetPattern, 1, getPattern⟩,
   ⟨.cancel, kindCancel, 2, cancel⟩, ⟨.flush, kindFlush, 0, flush⟩, ⟨.newFont, kindNewFont, 5, newFont⟩,
   ⟨.dropFont, kindDropFont, 1, dropFontRequest⟩, ⟨.fontInfo, kindFontInfo, 1, fontInfo⟩,
   ⟨.configurePanel, kindConfigurePanel, 17, configurePanel⟩, ⟨.releasePanel, kindReleasePanel, 1, releasePanel⟩,
   ⟨.clearFault, kindClearFault, 1, clearFault⟩, ⟨.panelInfo, kindPanelInfo, 1, panelInfo⟩]

/-- Each command of the table serves its kind behind the test of the body's length. -/
theorem exec_fixedLength (s : State) :
    ∀ r ∈ fixedLengthRules, exec r.command s = .next (s.serve r.kind (fixedLength r.length r.rule)) := by
  simp only [fixedLengthRules, List.forall_mem_cons]
  exact ⟨rfl, rfl, rfl, rfl, rfl, rfl, rfl, rfl, rfl, rfl, rfl, rfl, rfl, rfl, rfl, rfl, rfl, rfl,
    List.forall_mem_nil _⟩

/-! ## The outcomes (R158, R160) -/

section Outcomes

variable {s : State} {kind tag : Byte} {body : List Byte} {before after : List Slot}

theorem NextRequest.exec_badLength {r : FixedLengthRule} (hn : NextRequest s r.kind tag body before after)
    (hr : r ∈ fixedLengthRules) (hl : ¬ body.length = r.length) :
    exec r.command s =
      .next (s.replied r.kind tag { status := .badLength, items := [] } before after).transmit := by
  rw [exec_fixedLength s r hr, hn.serve, fixedLength_ne r.rule _ hl, hn.refuse]

theorem NextRequest.exec_unknownKind (hn : NextRequest s kind tag body before after) (hk : kind ∉ assignedKinds) :
    exec .unknownKind s =
      .next (s.replied kind tag { status := .unknownKind, items := [] } before after).transmit := by
  have unassigned : (!assignedKinds.contains kind) = true := by simp [hk]
  exact congrArg Host.Outcome.next ((hn.serveWhere _ unassigned _).trans (by rw [hn.refuse]))

/-- The command carries out the next request, which is a PING. -/
theorem NextRequest.exec_ping (hn : NextRequest s kindPing tag body before after) :
    exec .ping s = .next (ping body (s.taken kindPing tag body before after)).transmit :=
  congrArg Host.Outcome.next (hn.serve ping)

theorem NextRequest.exec_ping_echo (hn : NextRequest s kindPing tag body before after) (hl : body.length ≤ 1022) :
    exec .ping s = .next (s.replied kindPing tag { status := .ok, items := body } before after).transmit := by
  rw [hn.exec_ping, ping, if_pos hl, hn.answerAtOnce]

theorem NextRequest.exec_ping_badLength (hn : NextRequest s kindPing tag body before after)
    (hl : 1022 < body.length) :
    exec .ping s = .next (s.replied kindPing tag { status := .badLength, items := [] } before after).transmit := by
  rw [hn.exec_ping, ping, if_neg (Nat.not_le.mpr hl), hn.refuse]

end Outcomes

/-! ## The statement -/

/-- Settles O11: the codes listed are those of `assignedKinds`, and the rows listed those of `fixedLengthRules`. -/
theorem pingIsEchoedAndBadRequestsRefused : Obligations.PingIsEchoedAndBadRequestsRefused := by
  intro s kind tag body before after hn
  refine ⟨?ping, fun hk => ?unknown, fun c n hrow hl => ?fixed⟩
  case ping =>
    rintro rfl
    exact ⟨hn.exec_ping_echo, hn.exec_ping_badLength⟩
  case unknown =>
    have unassigned : kind ∉ assignedKinds := fun ha => hk (List.mem_map_of_mem (f := BitVec.toNat) ha)
    exact hn.exec_unknownKind unassigned
  case fixed =>
    have listed : (c, kind.toNat, n) ∈ fixedLengthRules.map FixedLengthRule.row := hrow
    obtain ⟨r, hr, heq⟩ := List.mem_map.mp listed
    obtain ⟨rfl, hcode, rfl⟩ : r.command = c ∧ r.kind.toNat = kind.toNat ∧ r.length = n := by
      simpa [FixedLengthRule.row] using heq
    obtain rfl := BitVec.eq_of_toNat_eq hcode
    exact hn.exec_badLength hr hl

end Sys2Proof.Machine
end

section
/-! The step, and the state after power-on (R163, Table 10-2): its tables entry by entry, and every law of the part at
`State.reset`. -/

namespace Sys2Proof.Machine

-- One declaration after the other: each further thread of the elaborator reserves memory of its own.
set_option Elab.async false

/-! ## The step -/

/-- Settles O1: the state that `exec` receives is the state itself, its queue restored. -/
theorem stepRunsTheFrontCommand : Obligations.StepRunsTheFrontCommand :=
  ⟨fun _ _ => rfl, fun s h => by rw [step, h]⟩

/-! ## The tables after power-on -/

/-- Every plane record is FREE where the table holds 24 FREE records. -/
theorem State.plane_of_allFree {s : State} (hs : s.planes = Vector.replicate 24 freePlaneRecord) (h : Nat) :
    s.plane h = freePlaneRecord := by
  unfold State.plane
  rw [hs, Vector.getElem?_replicate]
  split
  · split <;> rfl
  · rfl

/-- Every font record is UNDEFINED where the table holds 4 UNDEFINED records. -/
theorem State.font_of_allUndefined {s : State} (hs : s.fonts = Vector.replicate 4 undefinedFont) (id : Nat) :
    s.font id = undefinedFont := by
  unfold State.font
  rw [hs, Vector.getElem?_replicate]
  split <;> rfl

/-- Every pattern is zero where the table holds 16 zero patterns. -/
theorem State.patternEntry_of_allZero {s : State} (hs : s.patterns = Vector.replicate 16 zeroPattern) (i : Nat) :
    s.patternEntry i = zeroPattern := by
  unfold State.patternEntry
  rw [hs, Vector.getElem?_replicate]
  split <;> rfl

theorem State.plane_reset (h : Nat) : State.reset.plane h = freePlaneRecord := State.plane_of_allFree rfl h

theorem State.font_reset (id : Nat) : State.reset.font id = undefinedFont := State.font_of_allUndefined rfl id

theorem State.port_reset (p : Port) : State.reset.port p = unconfiguredPort := by cases p <;> rfl

/-- Settles O3. -/
theorem powerOnResetValues : Obligations.PowerOnResetValues := by
  intro rate1 rate0 s
  refine ⟨s.poweredOn rate1 rate0, rfl, rfl, rfl, fun h => State.plane_of_allFree rfl h, rfl,
    fun i => State.patternEntry_of_allZero rfl i, rfl, rfl, rfl, rfl, rfl,
    fun id => State.font_of_allUndefined rfl id, rfl, fun p => by cases p <;> rfl, rfl, rfl, ?_,
    fun p => by cases p <;> rfl, rfl, rfl⟩
  cases rate1 <;> cases rate0 <;> rfl

/-! ## The laws of a part that holds nothing -/

/-- A part that holds nothing but its content, its notices and its frames: what every reset but an ENGINE reset leaves
(R163, Table 10-2). -/
structure State.Blank (s : State) : Prop where
  planes : ∀ h, s.plane h = freePlaneRecord
  fonts : ∀ i, s.font i = undefinedFont
  ports : ∀ p, s.port p = unconfiguredPort
  freeList : s.freeList = [⟨0, 1536⟩]
  glyphs : s.glyphs = []
  jobs : s.jobs = []
  jobCounter : s.jobCounter = 1
  writeHold : s.writeHold = none
  staging : s.staging = []
  dataTimer : s.dataTimer = .stopped
  layoutLock : s.layoutLock = false
  owner : s.bus.owner = .none
  work : s.link.work = none
  slots : s.link.slots = []
  cache : s.link.cache = []
  notices : NoticeLaw s.notices

/-- The notice of a power-on, which is OUTSTANDING with the number just below the counter. -/
theorem State.reset_notices : NoticeLaw State.reset.notices :=
  ⟨by decide, by decide, 1, 1, by decide, by decide, by decide, rfl, rfl, by decide, rfl⟩

theorem State.reset_blank : State.reset.Blank :=
  ⟨State.plane_reset, State.font_reset, State.port_reset, rfl, rfl, rfl, rfl, rfl, rfl, rfl, rfl, rfl, rfl, rfl, rfl,
    State.reset_notices⟩

/-- An UNCONFIGURED port keeps the laws of a port. -/
theorem portLaw_unconfiguredPort : PortLaw unconfiguredPort := by
  simp [PortLaw, unconfiguredPort, PortState.refreshSet, PortState.timesBusy, Timer.isRunning]

namespace State.Blank

variable {s : State}

/-- No extent is allocated where every plane is FREE and every font UNDEFINED. -/
theorem allocated (b : s.Blank) : s.allocated = [] := by
  simp [State.allocated, b.planes, b.fonts, freePlaneRecord, undefinedFont]

/-- One free extent of 1536 blocks accounts for the whole store (R3). -/
theorem storeLaw (b : s.Blank) : StoreLaw s := by
  refine ⟨?form, ?accounted, fun h due => ?released⟩
  case form => simp [b.freeList, FreeListForm]
  case accounted => simp [StoreAccounted, b.allocated, b.freeList, blockIn]
  case released => simp [b.planes, freePlaneRecord] at due

theorem fontLaw (b : s.Blank) : FontLaw s := by
  simp [FontLaw, b.fonts, b.glyphs, GlyphsOrdered, undefinedFont]

theorem stagingLaw (b : s.Blank) : StagingLaw s := by
  simp [StagingLaw, b.staging]

theorem loadLaw (b : s.Blank) : LoadLaw s := by
  simp [LoadLaw, b.jobs, b.dataTimer]

theorem engineLaw (b : s.Blank) : EngineLaw s := by
  simp [EngineLaw, QueueLaw, PlaneLaw, b.jobs, b.jobCounter, b.work, b.planes, freePlaneRecord]

theorem runningLaw (b : s.Blank) : RunningLaw s := by
  simp [RunningLaw, b.jobs, b.writeHold]

theorem holdLaw (b : s.Blank) : HoldLaw s := by
  simp [HoldLaw, b.writeHold]

theorem not_streaming (b : s.Blank) (p : Port) : (s.port p).isStreaming = false := by
  simp [b.ports, unconfiguredPort, PortRec.isStreaming]

theorem no_claim (b : s.Blank) (p : Port) : s.claims p = false := by
  simp [State.claims, b.ports, PortRec.waits, unconfiguredPort]

theorem busLaw (b : s.Blank) : BusLaw s := by
  simp [BusLaw, b.not_streaming, b.no_claim, b.owner, b.layoutLock, State.queryWaits, b.work]

theorem portsLaw (b : s.Blank) : PortsLaw s := by
  have port (p : Port) : PortLaw (s.port p) := b.ports p ▸ portLaw_unconfiguredPort
  exact ⟨port .a, port .b, fun q hq => by simp [b.work] at hq⟩

theorem bindingLaw (b : s.Blank) : BindingLaw s := by
  have unbound (p : Port) : freePlaneRecord.bound p = false := by cases p <;> rfl
  simp [BindingLaw, b.ports, b.planes, b.work, unbound, show unconfiguredPort.state = .unconfigured from rfl,
    show freePlaneRecord.releaseDue = false from rfl]

end State.Blank

/-- Settles O54: the part holds nothing but one notice. -/
theorem resetStateHoldsEveryLaw : Obligations.ResetStateHoldsEveryLaw := by
  have blank := State.reset_blank
  refine ⟨List.Pairwise.nil, blank.stagingLaw, blank.loadLaw, blank.fontLaw, blank.notices, ?cache, ?slots, blank.engineLaw,
    blank.runningLaw, blank.storeLaw, blank.holdLaw, blank.busLaw, blank.portsLaw, blank.bindingLaw⟩
  case cache => exact ⟨by decide, List.Pairwise.nil, fun e he => absurd he List.not_mem_nil⟩
  case slots => exact ⟨by decide, List.Pairwise.nil, by decide, by decide⟩

end Sys2Proof.Machine
end

section
/-! The FULL reset and the link break (R137, R148, R149, R161, R162), and the RESET that is answered before it acts: an
equation for each outcome, and the statements assembled from them. -/

namespace Sys2Proof.Machine

set_option Elab.async false

/-! ## The FULL reset -/

theorem State.finishFullReset_eq (s : State) : s.finishFullReset = s.fullResetDone := rfl

/-- The notice of a FULL reset, which is not yet sent. -/
theorem startedUnit_law : NoticeLaw (startedUnit .resetFull) :=
  ⟨by decide, by decide, 0, 0, by decide, by decide, by decide, rfl, rfl, by decide, rfl⟩

theorem State.fullResetDone_blank (s : State) : s.fullResetDone.Blank :=
  ⟨fun h => State.plane_of_allFree rfl h, fun id => State.font_of_allUndefined rfl id,
    fun p => by cases p <;> rfl, rfl, rfl, rfl, rfl, rfl, rfl, rfl, rfl, rfl, rfl, rfl, rfl, startedUnit_law⟩

theorem State.poweredOn_blank (s : State) (rate1 rate0 : Bool) : (s.poweredOn rate1 rate0).Blank :=
  ⟨fun h => State.plane_of_allFree rfl h, fun id => State.font_of_allUndefined rfl id,
    fun p => by cases p <;> rfl, rfl, rfl, rfl, rfl, rfl, rfl, rfl, rfl, rfl, rfl, rfl, rfl, State.reset_notices⟩

/-- A FULL reset under way takes effect when it waits for nothing more. -/
theorem State.tryFullReset_done {s : State} (hw : s.link.work = some .fullWaiting) (hp : s.anyStreaming = false)
    (hs : s.link.sending = none) : s.tryFullReset = s.fullResetDone :=
  if_pos ⟨hw, hp, hs⟩

/-- Nothing happens where no FULL reset is under way, or where it waits for a port or a frame. -/
theorem State.tryFullReset_waits {s : State}
    (h : ¬ (s.link.work = some .fullWaiting ∧ s.anyStreaming = false ∧ s.link.sending = none)) :
    s.tryFullReset = s :=
  if_neg h

/-- All that a look at the FULL reset can do. -/
theorem State.tryFullReset_cases (s : State) : s.tryFullReset = s ∨ s.tryFullReset = s.fullResetDone := by
  unfold State.tryFullReset
  split
  · exact .inr rfl
  · exact .inl rfl

theorem PortRec.markAborting_isStreaming (r : PortRec) : r.markAborting.isStreaming = r.isStreaming := by
  unfold PortRec.markAborting PortRec.isStreaming
  cases h : r.state <;> simp [h]

/-- A port that is not STREAMING has nothing to abort. -/
theorem PortRec.markAborting_eq {r : PortRec} (h : r.isStreaming = false) : r.markAborting = r := by
  unfold PortRec.isStreaming at h
  unfold PortRec.markAborting
  cases hr : r.state <;> simp_all

theorem PortRec.markAborting_streaming {r : PortRec} {set : RefreshSet} {cmd : StreamCommand} {m : Bool}
    (h : r.state = .streaming set cmd m) : r.markAborting = { r with state := .streaming set cmd true } := by
  simp [PortRec.markAborting, h]

/-- The part from the beginning of a FULL reset until it takes effect (R137, R149). -/
def State.fullBegun (s : State) : State :=
  { s with
    portA := s.portA.markAborting, portB := s.portB.markAborting
    link := { s.link with work := some .fullWaiting } }

theorem State.fullBegun_anyStreaming (s : State) : s.fullBegun.anyStreaming = s.anyStreaming := by
  show (s.portA.markAborting.isStreaming || s.portB.markAborting.isStreaming) = _
  rw [PortRec.markAborting_isStreaming, PortRec.markAborting_isStreaming]
  rfl

theorem exec_fullReset {s : State} (hw : s.link.work = some (.resetDue .full)) :
    exec .fullReset s = .next s.fullBegun.tryFullReset.transmit := by
  show execFullReset s = _
  rw [execFullReset, hw]
  rfl

/-- The part as a frame leaves HTX. -/
def State.frameEnded (s : State) : State := { s with link := { s.link with sending := none } }

theorem exec_noticeFrameSent {s : State} {n : BitVec 8} {c : NoticeContent} {l : Bool}
    (hs : s.link.sending = some (.notice n c l)) :
    exec .noticeFrameSent s = .next s.frameEnded.tryFullReset.transmit := by
  show execNoticeFrameSent s = _
  rw [execNoticeFrameSent, hs]
  rfl

/-- Settles O4: whether a port is STREAMING or a frame is on HTX says if the reset waits. -/
theorem fullResetTakesEffect : Obligations.FullResetTakesEffect := by
  refine fun s => ⟨fun hw hp hs => ?_, fun hw hp n c l hs => ?_, fun hw waits => ?_⟩
  · rw [exec_fullReset hw,
      State.tryFullReset_done (s := s.fullBegun) rfl (by rw [State.fullBegun_anyStreaming, hp]) hs]
    rfl
  · rw [exec_noticeFrameSent hs, State.tryFullReset_done (s := s.frameEnded) hw hp rfl]
    rfl
  · refine ⟨s.portA.markAborting, s.portB.markAborting, ?_, PortRec.markAborting_eq, PortRec.markAborting_eq,
      fun _ _ _ => PortRec.markAborting_streaming, fun _ _ _ => PortRec.markAborting_streaming⟩
    rw [exec_fullReset hw, State.tryFullReset_waits]
    · rfl
    · rw [State.fullBegun_anyStreaming]
      rintro ⟨-, hp, hs⟩
      obtain streaming | sending := waits
      · simp [hp] at streaming
      · exact sending hs

/-! ## The link break -/

/-- A break leaves a FULL reset under way, and makes none. -/
theorem workAfterBreak_eq_fullWaiting {w : Option Work} :
    workAfterBreak w = some .fullWaiting ↔ w = some .fullWaiting := by
  unfold workAfterBreak
  split <;> simp

/-- The part as a break leaves its link and its notices, before a FULL reset that waits goes on (R148, R162). -/
def State.linkBroken (s : State) : State := { s with link := s.link.broken, notices := s.notices.broken }

theorem exec_linkBreak (s : State) : exec .linkBreak s = .next s.linkBroken.tryFullReset.transmit := rfl

/-- Settles O6: after the break no frame is on HTX, so a FULL reset waits for ports alone. -/
theorem linkBreakClearsTheLinkAlone : Obligations.LinkBreakClearsTheLinkAlone := by
  refine fun s => ⟨fun waits => ?_, fun ⟨hw, hp⟩ => ?_⟩
  · rw [exec_linkBreak, State.tryFullReset_waits]
    · rfl
    · exact fun ⟨hw, hp, _⟩ => waits ⟨workAfterBreak_eq_fullWaiting.mp hw, hp⟩
  · rw [exec_linkBreak, State.tryFullReset_done (s := s.linkBroken) (workAfterBreak_eq_fullWaiting.mpr hw) hp rfl]
    rfl

/-! ## RESET -/

section Reset

variable {s : State} {tag b : Byte} {before after : List Slot}

/-- The command carries out the next request, which is a RESET, by its rule. -/
theorem NextRequest.exec_reset {u : State} (hn : NextRequest s kindReset tag [b] before after)
    (hu : resetRequest [b] (s.taken kindReset tag [b] before after) = u) :
    exec .reset s = .next u.transmit := by
  subst hu
  exact congrArg Host.Outcome.next (hn.serveFixed 1 rfl resetRequest)

/-- A reply that keeps its slot in hand goes into that slot and no other (R161). -/
theorem map_answerKept (r : Reply) {kind : Byte} {c : SlotContent} (hn : ∀ sl ∈ before ++ after, sl.inHand = false) :
    (before ++ { tag := tag, kind := kind, inHand := true, content := c } :: after).map (Slot.answerKept r) =
      before ++ { tag := tag, kind := kind, inHand := true, content := .answered r false } :: after := by
  have keep (l : List Slot) (hl : ∀ sl ∈ l, sl.inHand = false) : l.map (Slot.answerKept r) = l :=
    (List.map_congr_left (g := id) fun sl h => by simp [Slot.answerKept, hl sl h]).trans (List.map_id l)
  obtain ⟨hb, ha⟩ := List.forall_mem_append.mp hn
  rw [List.map_append, List.map_cons, keep before hb, keep after ha]
  rfl

theorem NextRequest.answerReset (hn : NextRequest s kindReset tag [b] before after) (k : ResetKind) :
    (s.taken kindReset tag [b] before after).answerReset k =
      { s with
        link := { s.link with
          slots := before ++
            { tag := tag, kind := kindReset, inHand := true,
              content := .answered { status := .ok, items := [] } false } :: after
          work := some (.resetReply k) } } := by
  unfold State.answerReset State.taken
  rw [map_answerKept _ hn.noneInHand]
  rfl

end Reset

/-- Settles O7. -/
theorem resetIsAnsweredBeforeItActs : Obligations.ResetIsAnsweredBeforeItActs := by
  refine fun s tag b before after hn => ⟨fun k named => ?_, fun hb1 hb2 => ?_⟩
  · obtain ⟨rfl, rfl⟩ | ⟨rfl, rfl⟩ := named
    · rw [hn.exec_reset (u := (s.taken ..).answerReset .engine) rfl, hn.answerReset]
    · rw [hn.exec_reset (u := (s.taken ..).answerReset .full) rfl, hn.answerReset]
  · have other : resetRequest [b] (s.taken kindReset tag [b] before after) =
        (s.taken kindReset tag [b] before after).refuse .badValue := by
      unfold resetRequest
      split
      · next h => exact absurd (BitVec.eq_of_toNat_eq (y := 1) h) hb1
      · next h => exact absurd (BitVec.eq_of_toNat_eq (y := 2) h) hb2
      · rfl
    rw [hn.exec_reset other, hn.refuse]

end Sys2Proof.Machine
end

section
/-! The frame receiver and the intake slots (R151 to R155), the transmitter (R142, R153, R159) and the retransmission
timer (R144). -/

namespace Sys2Proof.Machine

/-! ## The receiver -/

/-- Settles O8: the state of the receiver says which row of its table applies. -/
theorem receiverFollowsItsTable : Obligations.ReceiverFollowsItsTable := by
  intro s b
  have good : exec (.byteReceived b true) s = .next (s.takeByte b).transmit := rfl
  rw [good]
  unfold State.takeByte
  refine ⟨fun h => ?hunt, fun h => ?length0, fun hi h => ?length1, fun len h => ?header0, fun len kind h => ?header1,
    fun len kind tag got h => ⟨fun more => ?body, fun last => ?lastByte⟩, fun kind tag body h => ?check, rfl,
    fun h => ?gap⟩
  case hunt =>
    rw [h]
    by_cases hb : b = 0x5A
    · simp only [if_pos hb]; rfl
    · simp only [if_neg hb]; rfl
  case length0 => rw [h]; rfl
  case length1 =>
    rw [h]
    by_cases long : 1024 < hi.toNat * 256 + b.toNat
    · simp only [Config.maxBody, long, if_true]; rfl
    · simp only [Config.maxBody, long, if_false]; rfl
  case header0 => rw [h]; rfl
  case header1 => rw [h]; rfl
  case body =>
    rw [h]
    have : ¬ len ≤ (got ++ [b]).length := by simp; omega
    simp only [receiverAfterBody, if_neg this]
    rfl
  case lastByte =>
    rw [h]
    have : len ≤ (got ++ [b]).length := by simp; omega
    simp only [receiverAfterBody, if_pos this]
    rfl
  case check => rw [h]; rfl
  case gap =>
    show execFrameGapTimeout s = _
    unfold execFrameGapTimeout
    split
    · next hunt => exact absurd hunt h
    · rfl

/-! ## The intake slots (R154) -/

theorem Slot.sameRequest_iff {sl : Slot} {tag kind : Byte} :
    sl.sameRequest tag kind = true ↔ sl.tag = tag ∧ sl.kind = kind := by
  simp [Slot.sameRequest]

theorem CacheEntry.sameRequest_iff {e : CacheEntry} {tag kind : Byte} :
    e.sameRequest tag kind = true ↔ e.tag = tag ∧ e.kind = kind := by
  simp [CacheEntry.sameRequest]

section Arrive

variable {l : Link} {tag kind : Byte} {body : List Byte}

/-- A request that comes again while the first one's slot is not FREE (R154). -/
def Link.Repeats (l : Link) (tag kind : Byte) : Prop :=
  ¬ tag = 0 ∧ ∃ sl ∈ l.slots, sl.tag = tag ∧ sl.kind = kind

theorem Link.repeats_iff :
    (tag ≠ 0 ∧ l.slots.any (fun sl => sl.sameRequest tag kind) = true) ↔ l.Repeats tag kind := by
  simp [Link.Repeats, List.any_eq_true, Slot.sameRequest_iff]

theorem Link.arrive_overrun (h : 4 ≤ l.slots.length) :
    l.arrive tag kind body = { l with flags := { l.flags with overrun := true } } :=
  if_pos h

variable (room : l.slots.length < 4)
include room

theorem Link.arrive_repeated (h : l.Repeats tag kind) : l.arrive tag kind body = l := by
  rw [Link.arrive, if_neg (show ¬ Config.slotCount ≤ _ from Nat.not_le.mpr room), if_pos (Link.repeats_iff.mpr h)]

theorem Link.arrive_new (h : ¬ l.Repeats tag kind) :
    l.arrive tag kind body =
      match (if tag = 0 then none else l.cache.find? (fun e => e.sameRequest tag kind)) with
      | some e => l.addSlot { tag := tag, kind := kind, inHand := false, content := .answered e.reply false }
      | none => l.addSlot { tag := tag, kind := kind, inHand := false, content := .held body } :=
  (if_neg (Nat.not_le.mpr room)).trans (if_neg (mt Link.repeats_iff.mp h))

theorem Link.arrive_cached (h : ¬ l.Repeats tag kind) (ht : ¬ tag = 0) {older newer : List CacheEntry} {r : Reply}
    (hc : l.cache = older ++ { tag := tag, kind := kind, reply := r } :: newer)
    (ho : ∀ e ∈ older, ¬ (e.tag = tag ∧ e.kind = kind)) :
    l.arrive tag kind body =
      l.addSlot { tag := tag, kind := kind, inHand := false, content := .answered r false } := by
  have found : l.cache.find? (fun e => e.sameRequest tag kind) = some { tag := tag, kind := kind, reply := r } := by
    rw [hc]
    exact find?_split (fun e he => Bool.eq_false_iff.mpr (mt CacheEntry.sameRequest_iff.mp (ho e he)))
      (CacheEntry.sameRequest_iff.mpr ⟨rfl, rfl⟩)
  rw [Link.arrive_new room h, if_neg ht, found]

theorem Link.arrive_held (h : ¬ l.Repeats tag kind)
    (hc : tag = 0 ∨ ∀ e ∈ l.cache, ¬ (e.tag = tag ∧ e.kind = kind)) :
    l.arrive tag kind body = l.addSlot { tag := tag, kind := kind, inHand := false, content := .held body } := by
  have absent : (if tag = 0 then none else l.cache.find? (fun e => e.sameRequest tag kind)) = none := by
    split
    · rfl
    · next ht =>
      exact List.find?_eq_none.mpr fun e he => mt CacheEntry.sameRequest_iff.mp ((hc.resolve_left ht) e he)
  rw [Link.arrive_new room h, absent]

end Arrive

/-! ## The judging of a frame (R153) -/

theorem isRequestKind_iff {kind : Byte} : isRequestKind kind = true ↔ 1 ≤ kind.toNat ∧ kind.toNat ≤ 63 := by
  simp [isRequestKind]

theorem checkMatches_iff {kind tag hi lo : Byte} {body : List Byte} :
    checkMatches kind tag body hi lo = true ↔ crc16 (itemU16 body.length ++ [kind, tag] ++ body) = hi ++ lo := by
  simp [checkMatches, checkedBytes]

theorem exec_frameReceived {s : State} {kind tag hi : Byte} {body : List Byte}
    (hr : s.link.receiver = .check kind tag body (some hi)) (lo : Byte) :
    exec (.frameReceived lo) s = .next (s.judge kind tag body hi lo).transmit := by
  show execFrameReceived lo s = _
  rw [execFrameReceived, hr]

section Judge

variable {s : State} {kind tag hi lo : Byte} {body : List Byte}

theorem State.judge_checkFail (h : ¬ checkMatches kind tag body hi lo = true) :
    s.judge kind tag body hi lo = (s.setReceiver .hunt).setCheckFail :=
  if_pos (Bool.eq_false_iff.mpr h)

variable (good : checkMatches kind tag body hi lo = true)
include good

theorem State.judge_framing (h : ¬ isRequestKind kind = true) : s.judge kind tag body hi lo = s.discardFrame := by
  unfold State.judge
  rw [if_neg (by simp [good]), if_pos (Bool.eq_false_iff.mpr h)]

theorem State.judge_request (h : isRequestKind kind = true) :
    s.judge kind tag body hi lo = (s.setReceiver .hunt).arrive tag kind body := by
  unfold State.judge
  rw [if_neg (by simp [good]), if_neg (by simp [h])]

end Judge

/-- Settles O9: the checks of R153, then the cases of R154 in their order. -/
theorem completeFrameIsJudged : Obligations.CompleteFrameIsJudged := by
  intro s kind tag hi lo body hr
  simp only [← isRequestKind_iff, ← checkMatches_iff, exec_frameReceived hr]
  refine ⟨fun bad => ?_, fun good bad => ?_, fun good request full => ?_, fun good request room again => ?_,
    fun good request room new ht older r newer hc ho => ?_, fun good request room new hc => ?_⟩
  · rw [State.judge_checkFail bad]; rfl
  · rw [State.judge_framing good bad]; rfl
  · rw [State.judge_request good request, State.arrive,
      Link.arrive_overrun (l := (s.setReceiver .hunt).link) full]; rfl
  · rw [State.judge_request good request, State.arrive,
      Link.arrive_repeated (l := (s.setReceiver .hunt).link) room again]; rfl
  · rw [State.judge_request good request, State.arrive,
      Link.arrive_cached (l := (s.setReceiver .hunt).link) room new ht hc ho]; rfl
  · rw [State.judge_request good request, State.arrive,
      Link.arrive_held (l := (s.setReceiver .hunt).link) room new hc]; rfl

/-! ## The retransmission timer (R144) -/

theorem Notice.isOutstanding_iff {n : Notice} : n.isOutstanding = true ↔ n.state = .outstanding := by
  simp [Notice.isOutstanding]

theorem Notice.isWaiting_iff {n : Notice} : n.isWaiting = true ↔ n.state = .waiting := by
  simp [Notice.isWaiting]

/-- Settles O16. -/
theorem expiryResendsOrStalls : Obligations.ExpiryResendsOrStalls := by
  intro s running
  show execRetransmissionTimerExpiry s = _
  simp only [execRetransmissionTimerExpiry, if_pos running, NoticeUnit.expire, Notice.isOutstanding_iff]
  rfl

end Sys2Proof.Machine
end

section
/-! The transmitter's choice (R142, R153, R159), the end of a frame on HTX (R156, R161), and the reception of a whole frame
byte by byte (R152). -/

namespace Sys2Proof.Machine

set_option Elab.async false

/-! ## The reply that is begun (R159) -/

/-- The earliest slot whose reply is ready, where it is known. -/
theorem readySlot_split {tag kind : Byte} {hand : Bool} {r : Reply} {before after : List Slot}
    (hb : ∀ sl ∈ before, sl.isReady = false) :
    readySlot (before ++ { tag := tag, kind := kind, inHand := hand, content := .answered r false } :: after) =
      some ({ tag := tag, kind := kind, inHand := hand, content := .answered r false }, r) := by
  unfold readySlot
  rw [find?_split hb rfl]
  rfl

theorem readySlot_eq_none {slots : List Slot} (h : ∀ sl ∈ slots, sl.isReady = false) : readySlot slots = none := by
  unfold readySlot
  rw [List.find?_eq_none.mpr fun sl hsl => by simp [h sl hsl]]

theorem State.transmit_reply {s : State} {tag kind : Byte} {hand : Bool} {r : Reply} {before after : List Slot}
    (hs : s.link.sending = none)
    (hl : s.link.slots =
      before ++ { tag := tag, kind := kind, inHand := hand, content := .answered r false } :: after)
    (hb : ∀ sl ∈ before, sl.isReady = false) :
    s.transmit =
      { s with
        link := { s.link with
          slots := before ++ { tag := tag, kind := kind, inHand := hand, content := .answered r true } :: after
          flags := clearFlags
          sending := some (.reply tag kind r s.link.flags) } } := by
  unfold State.transmit
  rw [hs, hl, readySlot_split hb]
  dsimp only [Link.beginReply]
  rw [hl, updateFirst_split hb rfl]
  rfl

/-- With no reply ready an idle transmitter turns to the notices. -/
theorem State.transmit_notice {s : State} (hs : s.link.sending = none) (hr : ∀ sl ∈ s.link.slots, sl.isReady = false) :
    s.transmit = s.beginNotice := by
  unfold State.transmit
  rw [hs, readySlot_eq_none hr]

/-! ## The notice that is offered (R142) -/

theorem Notice.wantsResend_iff {n : Notice} : n.wantsResend = true ↔ n.state = .outstanding ∧ n.resendDue = true := by
  simp [Notice.wantsResend, Notice.isOutstanding]

theorem Notice.not_wantsResend_of_waiting {n : Notice} (h : n.state = .waiting) : n.wantsResend = false := by
  simp [Notice.wantsResend, Notice.isOutstanding, h]

theorem Notice.not_wantsResend_of_settled {n : Notice} (h : n.state = .outstanding ∧ n.resendDue = false) :
    n.wantsResend = false := by
  simp [Notice.wantsResend, h.2]

theorem Notice.not_isWaiting_of_outstanding {n : Notice} (h : n.state = .outstanding) : n.isWaiting = false := by
  simp [Notice.isWaiting, h]

/-- The OUTSTANDING notices of a queue that has them first. -/
theorem outstandingCount_split {out more : List Notice} (ho : ∀ m ∈ out, m.state = .outstanding)
    (hm : ∀ m ∈ more, m.state = .waiting) : outstandingCount (out ++ more) = out.length := by
  have all : out.filter Notice.isOutstanding = out :=
    List.filter_eq_self.mpr fun m h => Notice.isOutstanding_iff.mpr (ho m h)
  have none : more.filter Notice.isOutstanding = [] :=
    List.filter_eq_nil_iff.mpr fun m h => by simp [Notice.isOutstanding, hm m h]
  rw [outstandingCount, List.filter_append, all, none, List.append_nil]

section Offer

variable {u : NoticeUnit}

theorem NoticeUnit.offer_stalled (h : u.state = .stalled) : u.offer = none := if_pos h

/-- With nothing due for a resend, a WAITING notice is offered while the window has room. -/
theorem NoticeUnit.offer_noneDue (hu : u.state = .sending) (hd : ∀ m ∈ u.queue, m.wantsResend = false) :
    u.offer = if outstandingCount u.queue < 4 then u.queue.find? Notice.isWaiting else none := by
  unfold NoticeUnit.offer
  rw [if_neg (by simp [hu]), List.find?_eq_none.mpr fun m h => by simp [hd m h]]
  rfl

theorem NoticeUnit.offer_nothing {out more : List Notice} (hq : u.queue = out ++ more)
    (ho : ∀ m ∈ out, m.state = .outstanding ∧ m.resendDue = false) (hm : ∀ m ∈ more, m.state = .waiting)
    (h : more = [] ∨ 4 ≤ out.length) : u.offer = none := by
  cases hu : u.state with
  | stalled => exact NoticeUnit.offer_stalled hu
  | sending =>
    have due : ∀ m ∈ u.queue, m.wantsResend = false := by
      rw [hq]
      exact List.forall_mem_append.mpr ⟨fun m h => Notice.not_wantsResend_of_settled (ho m h),
        fun m h => Notice.not_wantsResend_of_waiting (hm m h)⟩
    rw [NoticeUnit.offer_noneDue hu due, hq, outstandingCount_split (fun m h => (ho m h).1) hm]
    obtain rfl | full := h
    · rw [List.append_nil, List.find?_eq_none.mpr fun m h => by simp [Notice.isWaiting, (ho m h).1]]
      exact ite_self _
    · exact if_neg (Nat.not_lt.mpr full)

variable {older newer : List Notice} {n : Notice} (hu : u.state = .sending) (hq : u.queue = older ++ n :: newer)
include hu hq

theorem NoticeUnit.offer_resend (hn : n.wantsResend = true) (ho : ∀ m ∈ older, m.wantsResend = false) :
    u.offer = some n := by
  unfold NoticeUnit.offer
  rw [if_neg (by simp [hu]), hq, find?_split ho hn]

theorem NoticeUnit.offer_waiting (hn : n.state = .waiting)
    (ho : ∀ m ∈ older, m.state = .outstanding ∧ m.resendDue = false) (hm : ∀ m ∈ newer, m.state = .waiting)
    (room : older.length < 4) : u.offer = some n := by
  have behind : ∀ m ∈ n :: newer, m.state = .waiting := List.forall_mem_cons.mpr ⟨hn, hm⟩
  have due : ∀ m ∈ u.queue, m.wantsResend = false := by
    rw [hq]
    exact List.forall_mem_append.mpr ⟨fun m h => Notice.not_wantsResend_of_settled (ho m h),
      fun m h => Notice.not_wantsResend_of_waiting (behind m h)⟩
  rw [NoticeUnit.offer_noneDue hu due, hq, outstandingCount_split (fun m h => (ho m h).1) behind, if_pos room,
    find?_split (fun m h => Notice.not_isWaiting_of_outstanding (ho m h).1) (Notice.isWaiting_iff.mpr hn)]

end Offer

theorem State.beginNotice_none {s : State} (h : s.notices.offer = none) : s.beginNotice = s := by
  rw [State.beginNotice, h]

theorem State.beginNotice_some {s : State} {n : Notice} (h : s.notices.offer = some n) :
    s.beginNotice =
      { s with
        notices := s.notices.begun n
        link := { s.link with sending := some (s.notices.frameFor n) } } := by
  rw [State.beginNotice, h]

/-- Settles O12. -/
theorem transmitterChoosesTheNextFrame : Obligations.TransmitterChoosesTheNextFrame := by
  refine fun s => ⟨State.transmit_busy, fun tag kind hand r before after hs hl hb => State.transmit_reply hs hl hb,
    fun hs hr => ?_⟩
  rw [State.transmit_notice hs hr]
  refine ⟨fun stalled => State.beginNotice_none (NoticeUnit.offer_stalled stalled),
    fun out more hq ho hm h => State.beginNotice_none (NoticeUnit.offer_nothing hq ho hm h),
    fun older newer n hu hq => ⟨fun hn due ho k hk => ?resend, fun hn ho hm room => ?first⟩⟩
  case resend =>
    have wants : n.wantsResend = true := Notice.wantsResend_iff.mpr ⟨hn, due⟩
    have earlier : ∀ m ∈ older, m.wantsResend = false := fun m h => by
      cases state : m.state with
      | waiting => exact Notice.not_wantsResend_of_waiting state
      | outstanding => exact Notice.not_wantsResend_of_settled ⟨state, ho m h state⟩
    rw [State.beginNotice_some (NoticeUnit.offer_resend hu hq wants earlier), NoticeUnit.begun,
      if_pos (Notice.isOutstanding_iff.mpr hn), NoticeUnit.beginResend, hq, updateFirst_split earlier wants,
      NoticeUnit.frameFor, NoticeUnit.numberFor, hk]
    rfl
  case first =>
    have out : ∀ m ∈ older, m.isWaiting = false := fun m h => Notice.not_isWaiting_of_outstanding (ho m h).1
    have count : outstandingCount s.notices.queue = older.length := by
      rw [hq, outstandingCount_split (fun m h => (ho m h).1) (List.forall_mem_cons.mpr ⟨hn, hm⟩)]
    rw [State.beginNotice_some (NoticeUnit.offer_waiting hu hq hn ho hm room), NoticeUnit.begun,
      if_neg (by simp [Notice.isOutstanding, hn]), NoticeUnit.beginWaiting, count, hq,
      updateFirst_split out (Notice.isWaiting_iff.mpr hn)]
    simp only [List.length_eq_zero_iff]
    rfl

/-! ## The end of a frame on HTX (R154, R156, R161) -/

/-- The part as a reply's frame leaves HTX, before a FULL reset or the transmitter goes on. -/
def State.replyEnded (s : State) (tag kind : Byte) (r : Reply) : State :=
  { s with link := s.link.replySent tag kind r }

theorem exec_replyFrameSent {s : State} {tag kind : Byte} {r : Reply} {flags : LinkFlags}
    (hs : s.link.sending = some (.reply tag kind r flags)) (order : ReplyEndOrder) :
    exec (.replyFrameSent order) s = .next ((s.replyEnded tag kind r).tryFullReset.chooseAfterReply order) := by
  show execReplyFrameSent order s = _
  rw [execReplyFrameSent, hs]
  rfl

/-- A reset goes before the transmitter only where one is due. -/
theorem Link.resetGoesFirst_eq_false {l : Link} (h : ∀ k, ¬ l.work = some (.resetDue k)) (order : ReplyEndOrder) :
    l.resetGoesFirst order = false := by
  unfold Link.resetGoesFirst
  split
  · next k hk => exact absurd hk (h k)
  · exact Bool.and_false _

theorem State.chooseAfterReply_eq_transmit {s : State} (h : ∀ k, ¬ s.link.work = some (.resetDue k))
    (order : ReplyEndOrder) : s.chooseAfterReply order = s.transmit :=
  if_neg (by simp [Link.resetGoesFirst_eq_false h])

theorem State.chooseAfterReply_resetFirst {s : State} {k : ResetKind} (h : s.link.work = some (.resetDue k)) :
    s.chooseAfterReply .resetFirst = s :=
  if_pos (by simp [Link.resetGoesFirst, h])

theorem State.chooseAfterReply_transmitterFirst (s : State) : s.chooseAfterReply .transmitterFirst = s.transmit :=
  if_neg (by simp [Link.resetGoesFirst])

/-- A reply's end makes a RESET due where it is that RESET's reply, and leaves any other work in hand. -/
theorem Link.workAfterReply_eq {l : Link} (h : l.sentInHand = false ∨ ∀ k, ¬ l.work = some (.resetReply k)) :
    l.workAfterReply = l.work := by
  unfold Link.workAfterReply
  split
  · next k hk =>
    obtain unsent | none := h
    · rw [if_neg (by simp [unsent])]
    · exact absurd hk (none k)
  · rfl

theorem Link.workAfterReply_reset {l : Link} {k : ResetKind} (hw : l.work = some (.resetReply k))
    (h : l.sentInHand = true) : l.workAfterReply = some (.resetDue k) := by
  rw [Link.workAfterReply, hw]
  exact if_pos h

section ReplySent

variable {l : Link} {tag kind : Byte} {hand : Bool} {r : Reply} {before after : List Slot}
  (hl : l.slots = before ++ { tag := tag, kind := kind, inHand := hand, content := .answered r true } :: after)
  (hb : ∀ sl ∈ before ++ after, sl.isBegun = false)
include hl hb

/-- The slot of the reply just sent is in hand exactly where it is a RESET's. -/
theorem Link.sentInHand_eq : l.sentInHand = hand := by
  have quiet (xs : List Slot) (h : ∀ sl ∈ xs, sl.isBegun = false) :
      xs.any (fun sl => sl.isBegun && sl.inHand) = false :=
    List.any_eq_false.mpr fun sl hsl => by simp [h sl hsl]
  obtain ⟨before_quiet, after_quiet⟩ := List.forall_mem_append.mp hb
  rw [Link.sentInHand, hl, List.any_append, List.any_cons, quiet before before_quiet, quiet after after_quiet,
    Bool.false_or, Bool.or_false]
  rfl

theorem Link.eraseBegun_eq : l.slots.eraseP Slot.isBegun = before ++ after := by
  have unbegun : ∀ sl ∈ before, ¬ sl.isBegun = true := fun sl h => by simp [hb sl (List.mem_append_left _ h)]
  rw [hl, List.eraseP_append_right _ unbegun, List.eraseP_cons_of_pos rfl]

end ReplySent

/-- The cache after a reply has been sent, by the entries kept (R156). -/
theorem enterCache_eq (cache : List CacheEntry) (tag kind : Byte) (r : Reply) :
    enterCache cache tag kind r =
      if tag = 0 then cache
      else
        (cache.filter (fun e : CacheEntry => decide (¬ (e.tag = tag ∧ e.kind = kind))) ++
          [({ tag := tag, kind := kind, reply := r } : CacheEntry)]).drop
          ((cache.filter (fun e : CacheEntry => decide (¬ (e.tag = tag ∧ e.kind = kind))) ++
            [({ tag := tag, kind := kind, reply := r } : CacheEntry)]).length - 8) := by
  have same : (fun e : CacheEntry => !e.sameRequest tag kind) = fun e => decide (¬ (e.tag = tag ∧ e.kind = kind)) :=
    funext fun e => by simp [CacheEntry.sameRequest]
  rw [enterCache, same]
  rfl

/-- The part with the transmitter idle again, and its slots, its cache and the work in hand as a reply's end leaves them. -/
def State.replyFreed (s : State) (slots : List Slot) (cache : List CacheEntry) (w : Option Work) : State :=
  { s with link := { s.link with slots := slots, cache := cache, work := w, sending := none } }

/-- Settles O13: the work in hand says whether a reset is due, or waits for this frame. -/
theorem frameSentFreesTheTransmitter : Obligations.FrameSentFreesTheTransmitter := by
  refine fun s => ⟨fun tag kind hand r flags before after hs hl hb => ?reply, fun n c l hs => ⟨fun h => ?_, fun h => ?_⟩⟩
  case reply =>
    have inHand := Link.sentInHand_eq hl hb
    let cache := enterCache s.link.cache tag kind r
    have ended : s.replyEnded tag kind r = s.replyFreed (before ++ after) cache s.link.workAfterReply := by
      rw [State.replyEnded, Link.replySent, Link.eraseBegun_eq hl hb]
      rfl
    simp only [exec_replyFrameSent hs, ended]
    rw [show (if tag = 0 then _ else _) = cache from (enterCache_eq s.link.cache tag kind r).symm]
    refine ⟨fun own due waits order => ?_, fun ⟨hw, hp⟩ order => ?_, fun k hw => ?_, fun k hh hw => ?_⟩
    · have kept : s.link.workAfterReply = s.link.work := Link.workAfterReply_eq (inHand ▸ own)
      rw [kept, State.tryFullReset_waits (s := s.replyFreed ..) fun ⟨hw, hp, _⟩ => waits ⟨hw, hp⟩,
        State.chooseAfterReply_eq_transmit (s := s.replyFreed ..) due]
      rfl
    · have kept : s.link.workAfterReply = s.link.work := Link.workAfterReply_eq (.inr fun k => by simp [hw])
      rw [kept, State.tryFullReset_done (s := s.replyFreed ..) hw hp rfl,
        State.chooseAfterReply_eq_transmit fun k => by simp [State.fullResetDone]]
      rfl
    · have kept : s.link.workAfterReply = s.link.work := Link.workAfterReply_eq (.inr fun k => by simp [hw])
      have waits : ¬ s.link.work = some .fullWaiting := by simp [hw]
      rw [kept, State.tryFullReset_waits (s := s.replyFreed ..) fun h => waits h.1,
        State.chooseAfterReply_transmitterFirst, State.chooseAfterReply_resetFirst (s := s.replyFreed ..) hw]
      exact ⟨rfl, rfl⟩
    · have due : s.link.workAfterReply = some (.resetDue k) := Link.workAfterReply_reset hw (inHand.trans hh)
      have waits : ¬ some (Work.resetDue k) = some .fullWaiting := by simp
      rw [due, State.tryFullReset_waits (s := s.replyFreed _ _ (some (.resetDue k))) fun h => waits h.1,
        State.chooseAfterReply_transmitterFirst, State.chooseAfterReply_resetFirst (s := s.replyFreed ..) rfl]
      exact ⟨rfl, rfl⟩
  · rw [exec_noticeFrameSent hs, State.tryFullReset_waits (s := s.frameEnded) fun ⟨hw, hp, _⟩ => h ⟨hw, hp⟩]
    rfl
  · rw [exec_noticeFrameSent hs, State.tryFullReset_done (s := s.frameEnded) h.1 h.2 rfl]
    rfl

/-! ## The reception of a whole frame (R152) -/

/-- The part with its receiver at a state and commands waiting. -/
def State.receiving (s : State) (r : Receiver) (p : List Instr) : State :=
  { s with pending := p, link := { s.link with receiver := r } }

/-- The transmitter's choice does not look at the receiver. -/
theorem State.transmit_receiving (s : State) (r : Receiver) (p : List Instr) :
    (s.receiving r p).transmit = s.transmit.receiving r p := by
  have sending : (s.receiving r p).link.sending = s.link.sending := rfl
  have slots : (s.receiving r p).link.slots = s.link.slots := rfl
  have notices : (s.receiving r p).notices = s.notices := rfl
  unfold State.transmit State.beginNotice
  rw [sending, slots, notices]
  cases s.link.sending with
  | some _ => rfl
  | none =>
    cases readySlot s.link.slots with
    | some _ => rfl
    | none => cases s.notices.offer <;> rfl

/-- A byte as the command that brings it, with a good stop bit. -/
def byteCommand (b : Byte) : Instr := .byteReceived b true

/-- One step takes one byte, where the transmitter is at rest and the receiver goes from a state to another. -/
theorem run_byte {s : State} (quiet : s.transmit = s) {r r' : Receiver} {b : Byte}
    (h : ∀ t : State, t.link.receiver = r → t.takeByte b = t.setReceiver r') (p : List Instr) (k : Nat) :
    Sys2Proof.core.run (k + 1) (s.receiving r (byteCommand b :: p)) = Sys2Proof.core.run k (s.receiving r' p) := by
  have taken : step (s.receiving r (byteCommand b :: p)) = .next (s.receiving r' p) := by
    show Host.Outcome.next ((s.receiving r p).takeByte b).transmit = _
    rw [h _ rfl]
    show Host.Outcome.next (s.receiving r' p).transmit = _
    rw [State.transmit_receiving, quiet]
  show (match step (s.receiving r (byteCommand b :: p)) with
    | .next s' => Sys2Proof.core.run k s'
    | .fault r => .fault r
    | .refused r => .refused r) = _
  rw [taken]

theorem takeByte_body {len : Nat} {kind tag b : Byte} {got : List Byte} (t : State)
    (h : t.link.receiver = .body len kind tag got) :
    t.takeByte b = t.setReceiver (receiverAfterBody len kind tag (got ++ [b])) := by
  rw [State.takeByte, h]

/-- The bytes of a body bring the receiver to CHECK with that body. -/
theorem run_body {s : State} (quiet : s.transmit = s) {len : Nat} {kind tag : Byte} (p : List Instr) (k : Nat)
    (rest got : List Byte) (hr : rest ≠ []) (hl : got.length + rest.length = len) :
    Sys2Proof.core.run (rest.length + k) (s.receiving (.body len kind tag got) (rest.map byteCommand ++ p)) =
      Sys2Proof.core.run k (s.receiving (.check kind tag (got ++ rest) none) p) := by
  induction rest generalizing got with
  | nil => exact absurd rfl hr
  | cons b rest ih =>
    rw [List.length_cons, Nat.add_right_comm, List.map_cons, List.cons_append, run_byte quiet takeByte_body]
    cases rest with
    | nil =>
      have last : len ≤ (got ++ [b]).length := by simp at hl ⊢; omega
      rw [receiverAfterBody, if_pos last]
      exact congrArg (fun n => Sys2Proof.core.run n _) (Nat.zero_add k)
    | cons c more =>
      have early : ¬ len ≤ (got ++ [b]).length := by simp at hl ⊢; omega
      rw [receiverAfterBody, if_neg early, ih (got ++ [b]) (List.cons_ne_nil c more) (by simp at hl ⊢; omega),
        List.append_assoc]
      rfl

/-- TAG and BODY bring the receiver to CHECK with the body, an empty one included. -/
theorem run_tag_body {s : State} (quiet : s.transmit = s) {kind tag : Byte} (body : List Byte) (p : List Instr)
    (k : Nat) :
    Sys2Proof.core.run (body.length + k + 1)
        (s.receiving (.header body.length (some kind)) (byteCommand tag :: (body.map byteCommand ++ p))) =
      Sys2Proof.core.run k (s.receiving (.check kind tag body none) p) := by
  rw [run_byte (r' := receiverAfterTag body.length kind tag) quiet fun t h => by rw [State.takeByte, h]]
  cases body with
  | nil => exact congrArg (fun n => Sys2Proof.core.run n _) (Nat.zero_add k)
  | cons b body =>
    exact run_body quiet p k (b :: body) [] (List.cons_ne_nil b body) (Nat.zero_add _)

/-- A number of up to 1024 is read from its two bytes. -/
theorem lengthItems_read {n : Nat} (h : n ≤ 1024) :
    (BitVec.ofNat 8 (n / 256)).toNat * 256 + (BitVec.ofNat 8 n).toNat = n := by
  simp only [BitVec.toNat_ofNat]
  omega

/-- The two bytes of a CRC, joined, are the CRC. -/
theorem crcItems_joined (c : BitVec 16) :
    (BitVec.ofNat 8 (c.toNat / 256) ++ BitVec.ofNat 8 c.toNat : BitVec 16) = c := by
  apply BitVec.eq_of_toNat_eq
  have := c.isLt
  rw [BitVec.toNat_append, ← Nat.shiftLeft_add_eq_or_of_lt (BitVec.isLt _), Nat.shiftLeft_eq]
  simp only [BitVec.toNat_ofNat]
  omega

theorem State.takeByte_start (t : State) (h : t.link.receiver = .hunt) : t.takeByte 0x5A = t.setReceiver (.length none) := by
  rw [State.takeByte, h]
  rfl

theorem State.takeByte_lengthLow {len : Nat} (hl : len ≤ 1024) (t : State)
    (h : t.link.receiver = .length (some (BitVec.ofNat 8 (len / 256)))) :
    t.takeByte (BitVec.ofNat 8 len) = t.setReceiver (.header len none) := by
  rw [State.takeByte, h]
  simp only [lengthItems_read hl, Config.maxBody, Nat.not_lt.mpr hl, if_false, receiverAfterLen]

/-- Settles O10: each byte takes the receiver one state on, and the last one has the frame judged, which is good. -/
theorem everyFrameIsReceivedWhole : Obligations.EveryFrameIsReceivedWhole := by
  intro s kind tag body hr quiet hp hl hk1 hk63
  have idle : s.receiving .hunt [] = s := by
    unfold State.receiving
    rw [← hr, ← hp]
  let crc := (crc16 (checkedBytes kind tag body)).toNat
  have bytes : (frameBytes kind tag body).map byteCommand =
      byteCommand 0x5A :: byteCommand (BitVec.ofNat 8 (body.length / 256)) ::
        byteCommand (BitVec.ofNat 8 body.length) :: byteCommand kind :: byteCommand tag ::
          (body.map byteCommand ++ [byteCommand (BitVec.ofNat 8 (crc / 256)), byteCommand (BitVec.ofNat 8 crc)]) := by
    simp [frameBytes, checkedBytes, itemU16, crc]
  have judged : (s.receiving (.check kind tag body (some (BitVec.ofNat 8 (crc / 256)))) []).takeByte
      (BitVec.ofNat 8 crc) = (s.receiving .hunt []).arrive tag kind body :=
    State.judge_request (checkMatches_iff.mpr (crcItems_joined _).symm) (isRequestKind_iff.mpr ⟨hk1, hk63⟩)
  have start : { s with pending := (frameBytes kind tag body).map byteCommand } =
      s.receiving .hunt ((frameBytes kind tag body).map byteCommand) := by
    unfold State.receiving
    rw [← hr]
  show Sys2Proof.core.run (body.length + 7) { s with pending := (frameBytes kind tag body).map byteCommand } = _
  rw [start, bytes, run_byte quiet State.takeByte_start,
    run_byte (r' := .length (some (BitVec.ofNat 8 (body.length / 256)))) quiet fun t h => by rw [State.takeByte, h],
    run_byte quiet (State.takeByte_lengthLow hl),
    run_byte (r' := .header body.length (some kind)) quiet fun t h => by rw [State.takeByte, h],
    run_tag_body quiet (k := 2),
    run_byte (r' := .check kind tag body (some (BitVec.ofNat 8 (crc / 256)))) quiet fun t h => by rw [State.takeByte, h]]
  show Host.Outcome.next (State.takeByte _ _).transmit = _
  exact congrArg (fun t : State => Host.Outcome.next t.transmit) (judged.trans (by rw [idle]; rfl))

end Sys2Proof.Machine
end

section
/-! What the notice unit does to its own laws, and what the reply cache does (R139 to R148, R156). -/

namespace Sys2Proof.Machine

set_option Elab.async false

/-! ## The notice queue by its parts -/

/-- The queue of a notice unit that keeps its laws: the OUTSTANDING notices, those that RESYNC let keep their numbers,
and those without a number. -/
structure NoticeParts (u : NoticeUnit) (out kept fresh : List Notice) : Prop where
  queue : u.queue = out ++ kept ++ fresh
  outstanding : ∀ n ∈ out, n.state = .outstanding
  waiting : ∀ n ∈ kept ++ fresh, n.state = .waiting ∧ n.resendDue = false
  numbers : (out ++ kept).map (·.seq) = numbersBelow u.counter (out ++ kept).length
  unnumbered : ∀ n ∈ fresh, n.seq = none
  window : out.length ≤ 4
  count : u.queue.length ≤ 16
  retries : u.retries ≤ 3
  timer : u.timer = if u.state = .sending ∧ 0 < out.length then .running 1000 else .stopped

theorem numbersBelow_length (c : BitVec 8) (k : Nat) : (numbersBelow c k).length = k := by simp [numbersBelow]

theorem numbersBelow_succ (c : BitVec 8) (k : Nat) : numbersBelow (c + 1) (k + 1) = numbersBelow c k ++ [some c] := by
  have shift (i : Nat) : c + 1 - BitVec.ofNat 8 (k + 1) + BitVec.ofNat 8 i = c - BitVec.ofNat 8 k + BitVec.ofNat 8 i := by
    rw [BitVec.ofNat_add]
    generalize BitVec.ofNat 8 k = x
    generalize BitVec.ofNat 8 i = y
    bv_omega
  unfold numbersBelow
  simp only [shift]
  rw [List.range_succ, List.map_append, List.map_singleton, BitVec.sub_add_cancel]

theorem numbersBelow_drop (c : BitVec 8) (j k : Nat) : (numbersBelow c (j + k)).drop j = numbersBelow c k := by
  have shift (i : Nat) :
      c - BitVec.ofNat 8 (j + k) + BitVec.ofNat 8 (j + i) = c - BitVec.ofNat 8 k + BitVec.ofNat 8 i := by
    rw [BitVec.ofNat_add, BitVec.ofNat_add]
    generalize BitVec.ofNat 8 j = x
    generalize BitVec.ofNat 8 k = y
    generalize BitVec.ofNat 8 i = z
    bv_omega
  unfold numbersBelow
  rw [List.range_add, List.map_append, List.drop_left' (by simp), List.map_map]
  exact List.map_congr_left fun i _ => congrArg some (shift i)

theorem noticeLaw_iff {u : NoticeUnit} : NoticeLaw u ↔ ∃ out kept fresh, NoticeParts u out kept fresh := by
  constructor
  · rintro ⟨count, retries, o, k, window, least, most, states, seqs, unmarked, timer⟩
    have cut : u.queue = u.queue.take o ++ (u.queue.drop o).take (k - o) ++ u.queue.drop k := by
      rw [List.append_assoc]
      conv_rhs => rw [show k = o + (k - o) by omega, ← List.drop_drop, Nat.add_sub_cancel_left, List.take_append_drop,
        List.take_append_drop]
    have front : u.queue.take o ++ (u.queue.drop o).take (k - o) = u.queue.take k := by
      rw [← List.take_add, show o + (k - o) = k by omega]
    have outLength : (u.queue.take o).length = o := List.length_take_of_le (least.trans most)
    have later : ∀ n ∈ u.queue.drop o, n.state = .waiting := by
      have tail : (u.queue.drop o).map (·.state) = List.replicate (u.queue.length - o) .waiting := by
        rw [List.map_drop, states, List.drop_append_of_le_length (by simp), List.drop_replicate]
        simp
      intro n hn
      exact List.eq_of_mem_replicate (tail ▸ List.mem_map_of_mem hn)
    have behind : (u.queue.drop o).take (k - o) ++ u.queue.drop k = u.queue.drop o := by
      rw [show u.queue.drop k = (u.queue.drop o).drop (k - o) by
        rw [List.drop_drop, show o + (k - o) = k by omega], List.take_append_drop]
    refine ⟨_, _, _, cut, fun n hn => ?_, fun n hn => ?_, ?_, fun n hn => ?_, outLength.symm ▸ window, count, retries,
      ?_⟩
    · have head : (u.queue.take o).map (·.state) = List.replicate o .outstanding := by
        rw [List.map_take, states, List.take_left' (by simp)]
      exact List.eq_of_mem_replicate (head ▸ List.mem_map_of_mem hn)
    · rw [behind] at hn
      exact ⟨later n hn, unmarked n (List.mem_of_mem_drop hn) (later n hn)⟩
    · rw [front, List.map_take, seqs, List.take_left' (numbersBelow_length _ _), List.length_take_of_le most]
    · have tail : (u.queue.drop k).map (·.seq) = List.replicate (u.queue.length - k) none := by
        rw [List.map_drop, seqs, List.drop_left' (numbersBelow_length _ _)]
      exact List.eq_of_mem_replicate (tail ▸ List.mem_map_of_mem hn)
    · rw [outLength]
      exact timer
  · rintro ⟨out, kept, fresh, queue, outstanding, waiting, numbers, unnumbered, window, count, retries, timer⟩
    have length : u.queue.length = out.length + kept.length + fresh.length := by
      rw [queue, List.length_append, List.length_append]
    refine ⟨count, retries, out.length, (out ++ kept).length, window, ?_, ?_, ?_, ?_, fun n hn hw => ?_, timer⟩
    · simp
    · rw [length, List.length_append]
      omega
    · rw [queue, List.append_assoc, List.map_append]
      congr 1
      · exact List.eq_replicate_iff.mpr ⟨by simp, by simpa using outstanding⟩
      · refine List.eq_replicate_iff.mpr ⟨by simp, ?_⟩
        intro st hst
        obtain ⟨n, hn, rfl⟩ := List.mem_map.mp hst
        exact (waiting n hn).1
    · rw [queue, List.map_append, numbers]
      congr 1
      refine List.eq_replicate_iff.mpr ⟨by simp; omega, ?_⟩
      intro seq hs
      obtain ⟨n, hn, rfl⟩ := List.mem_map.mp hs
      exact unnumbered n hn
    · rw [queue, List.append_assoc] at hn
      obtain hn | hn := List.mem_append.mp hn
      · exact NoticeState.noConfusion ((outstanding n hn).symm.trans hw)
      · exact (waiting n hn).2

/-! ## The notice unit's operations -/

section Laws

variable {u : NoticeUnit}

theorem NoticeLaw.push (h : NoticeLaw u) (c : NoticeContent) : NoticeLaw (u.push c) := by
  rw [noticeLaw_iff] at h ⊢
  obtain ⟨out, kept, fresh, queue, outstanding, waiting, numbers, unnumbered, window, count, retries, timer⟩ := h
  unfold NoticeUnit.push
  split
  · exact ⟨out, kept, fresh, queue, outstanding, waiting, numbers, unnumbered, window, count, retries, timer⟩
  · next room =>
    refine ⟨out, kept, fresh ++ [newNotice c], ?_, outstanding, fun n hn => ?_, numbers, fun n hn => ?_, window, ?_,
      retries, timer⟩
    · simp [queue]
    · rw [← List.append_assoc] at hn
      obtain hn | hn := List.mem_append.mp hn
      · exact waiting n hn
      · rw [List.mem_singleton.mp hn]
        exact ⟨rfl, rfl⟩
    · obtain hn | hn := List.mem_append.mp hn
      · exact unnumbered n hn
      · rw [List.mem_singleton.mp hn]
        rfl
    · simp only [List.length_append, List.length_singleton]
      simp only [Config.noticeCapacity] at room
      omega

/-- The first element of a list that satisfies a test, where one does. -/
theorem exists_first {α : Type} {t : α → Bool} {l : List α} {a : α} (h : l.find? t = some a) :
    ∃ front back, l = front ++ a :: back ∧ (∀ x ∈ front, t x = false) ∧ t a = true := by
  obtain ⟨ha, front, back, is, hf⟩ := List.find?_eq_some_iff_append.mp h
  exact ⟨front, back, is, fun x hx => by simpa using hf x hx, ha⟩

theorem NoticeParts.beginResend {out kept fresh : List Notice} (h : NoticeParts u out kept fresh) {n : Notice}
    (found : u.queue.find? Notice.wantsResend = some n) : NoticeLaw u.beginResend := by
  obtain ⟨queue, outstanding, waiting, numbers, unnumbered, window, count, retries, timer⟩ := h
  have none : ∀ m ∈ kept ++ fresh, m.wantsResend = false := by
    intro m hm
    simp [Notice.wantsResend, (waiting m hm).2]
  have inOut : out.find? Notice.wantsResend = some n := by
    have later : (kept ++ fresh).find? Notice.wantsResend = Option.none :=
      List.find?_eq_none.mpr fun m hm => by simp [none m hm]
    rw [queue, List.append_assoc, List.find?_append, later, Option.or_none] at found
    exact found
  obtain ⟨front, back, rfl, before, wants⟩ := exists_first inOut
  rw [noticeLaw_iff]
  have changed : u.beginResend.queue =
      (front ++ { n with resendDue := false, lostMark := u.markFor n } :: back) ++ kept ++ fresh := by
    unfold NoticeUnit.beginResend
    dsimp only
    rw [queue]
    simp only [List.append_assoc, List.cons_append]
    rw [updateFirst_split before wants]
  refine ⟨_, kept, fresh, changed, fun m hm => ?_, waiting, ?_, unnumbered, ?_, ?_, retries, ?_⟩
  · obtain hm | hm := List.mem_append.mp hm
    · exact outstanding m (List.mem_append_left _ hm)
    · obtain rfl | hm := List.mem_cons.mp hm
      · exact outstanding n (List.mem_append_right _ List.mem_cons_self)
      · exact outstanding m (List.mem_append_right _ (List.mem_cons_of_mem _ hm))
  · simpa [NoticeUnit.beginResend] using numbers
  · simpa using window
  · rw [changed]
    rw [queue] at count
    simpa using count
  · simpa [NoticeUnit.beginResend] using timer

theorem NoticeParts.beginWaiting {out kept fresh : List Notice} (h : NoticeParts u out kept fresh) {n : Notice}
    (hs : u.state = .sending) (room : outstandingCount u.queue < 4)
    (found : u.queue.find? Notice.isWaiting = some n) : NoticeLaw (u.beginWaiting n) := by
  obtain ⟨queue, outstanding, waiting, numbers, unnumbered, window, count, retries, timer⟩ := h
  have before : ∀ m ∈ out, m.isWaiting = false := fun m hm => by simp [Notice.isWaiting, outstanding m hm]
  have counted : outstandingCount u.queue = out.length := by
    rw [queue, List.append_assoc]
    exact outstandingCount_split outstanding fun m hm => (waiting m hm).1
  have first (m : Notice) (hm : m ∈ kept ++ fresh) : m.isWaiting = true := by simp [Notice.isWaiting, (waiting m hm).1]
  have running : (u.beginWaiting n).timer =
      if (u.beginWaiting n).state = .sending ∧ 0 < out.length + 1 then .running 1000 else .stopped := by
    simp only [NoticeUnit.beginWaiting, counted, hs, timer, Config.retransmitMs]
    split
    · next none => simp
    · next some => simp [Nat.pos_of_ne_zero some]
  rw [noticeLaw_iff]
  cases kept with
  | cons m kept =>
    have is : u.queue.find? Notice.isWaiting = some m := by
      rw [queue, List.append_assoc]
      exact find?_split before (first m (by simp))
    obtain rfl : m = n := Option.some.inj (is.symm.trans found)
    have seq : m.seq ≠ none := by
      intro none
      have := congrArg (fun l => l[out.length]?) numbers
      simp [numbersBelow, none] at this
    obtain ⟨c, hc⟩ := Option.ne_none_iff_exists'.mp seq
    have number : u.numberFor m = c := by simp [NoticeUnit.numberFor, hc]
    have changed : (u.beginWaiting m).queue =
        (out ++ [{ m with state := .outstanding, seq := some c, lostMark := u.markFor m }]) ++ kept ++ fresh := by
      unfold NoticeUnit.beginWaiting
      dsimp only
      rw [queue]
      simp only [List.append_assoc, List.cons_append]
      rw [updateFirst_split before (first m (by simp)), number]
      rfl
    refine ⟨_, kept, fresh, changed, fun k hk => ?_, fun k hk => waiting k (List.mem_cons_of_mem _ hk), ?_, unnumbered,
      ?_, ?_, retries, ?_⟩
    · obtain hk | hk := List.mem_append.mp hk
      · exact outstanding k hk
      · rw [List.mem_singleton.mp hk]
    · have counter : (u.beginWaiting m).counter = u.counter := by simp [NoticeUnit.beginWaiting, hc]
      rw [counter]
      simpa [hc] using numbers
    · rw [List.length_append, ← counted]
      exact room
    · rw [changed]
      rw [queue] at count
      simpa using count
    · rw [List.length_append]
      exact running
  | nil =>
    cases fresh with
    | nil =>
      rw [queue, List.append_nil, List.append_nil, List.find?_eq_none.mpr fun m hm => by simp [before m hm]] at found
      cases found
    | cons m fresh =>
      have is : u.queue.find? Notice.isWaiting = some m := by
        rw [queue, List.append_nil]
        exact find?_split before (first m (by simp))
      obtain rfl : m = n := Option.some.inj (is.symm.trans found)
      have none : m.seq = none := unnumbered m List.mem_cons_self
      have number : u.numberFor m = u.counter := by simp [NoticeUnit.numberFor, none]
      have changed : (u.beginWaiting m).queue =
          (out ++ [{ m with state := .outstanding, seq := some u.counter, lostMark := u.markFor m }]) ++ [] ++ fresh := by
        unfold NoticeUnit.beginWaiting
        dsimp only
        rw [queue, List.append_nil, updateFirst_split before (first m (by simp)), number]
        simp
      refine ⟨_, [], fresh, changed, fun k hk => ?_, fun k hk => waiting k (List.mem_cons_of_mem _ hk), ?_,
        fun k hk => unnumbered k (List.mem_cons_of_mem _ hk), ?_, ?_, retries, ?_⟩
      · obtain hk | hk := List.mem_append.mp hk
        · exact outstanding k hk
        · rw [List.mem_singleton.mp hk]
      · have counter : (u.beginWaiting m).counter = u.counter + 1 := by simp [NoticeUnit.beginWaiting, none]
        rw [counter, List.append_nil, List.length_append, List.length_singleton, numbersBelow_succ, List.map_append]
        rw [List.append_nil] at numbers
        rw [numbers]
        rfl
      · rw [List.length_append, ← counted]
        exact room
      · rw [changed]
        rw [queue] at count
        simpa using count
      · rw [List.length_append]
        exact running

/-- The unit whose offer is taken. -/
theorem NoticeLaw.begun (h : NoticeLaw u) {n : Notice} (offered : u.offer = some n) : NoticeLaw (u.begun n) := by
  obtain ⟨out, kept, fresh, parts⟩ := noticeLaw_iff.mp h
  unfold NoticeUnit.offer at offered
  split at offered
  · cases offered
  · next notStalled =>
    have sending : u.state = .sending := by
      cases hs : u.state with
      | sending => rfl
      | stalled => exact absurd hs notStalled
    split at offered
    · next _ found =>
      cases offered
      have is : n.isOutstanding = true := by
        have := List.find?_some found
        simp only [Notice.wantsResend, Bool.and_eq_true] at this
        exact this.1
      unfold NoticeUnit.begun
      rw [if_pos is]
      exact parts.beginResend found
    · split at offered
      · next room =>
        have is : n.isOutstanding = false := by
          have := List.find?_some offered
          simp only [Notice.isWaiting, decide_eq_true_eq] at this
          simp [Notice.isOutstanding, this]
        unfold NoticeUnit.begun
        rw [is]
        exact parts.beginWaiting sending room offered
      · cases offered

theorem NoticeLaw.expire (h : NoticeLaw u) (runs : u.timer.isRunning = true) : NoticeLaw u.expire := by
  obtain ⟨out, kept, fresh, queue, outstanding, waiting, numbers, unnumbered, window, count, retries, timer⟩ :=
    noticeLaw_iff.mp h
  rw [noticeLaw_iff]
  unfold NoticeUnit.expire
  split
  · next again =>
    have untouched (l : List Notice) (hl : ∀ n ∈ l, n.state = .waiting) :
        l.map (fun n => if n.isOutstanding then { n with resendDue := true } else n) = l := by
      refine (List.map_congr_left fun n hn => ?_).trans (List.map_id l)
      simp [Notice.isOutstanding, hl n hn]
    refine ⟨out.map (fun n => if n.isOutstanding then { n with resendDue := true } else n), kept, fresh, ?_, fun n hn => ?_,
      waiting, ?_, unnumbered, ?_, ?_, ?_, ?_⟩
    · dsimp only
      rw [queue, List.append_assoc, List.map_append, untouched (kept ++ fresh) fun n hn => (waiting n hn).1,
        List.append_assoc]
    · obtain ⟨m, hm, rfl⟩ := List.mem_map.mp hn
      split <;> exact outstanding m hm
    · have same : (fun n : Notice => (if n.isOutstanding then { n with resendDue := true } else n).seq) = (·.seq) := by
        funext n
        split <;> rfl
      simpa [Function.comp_def, same] using numbers
    · simpa using window
    · simpa using count
    · simp only [Config.maxRetries] at again
      exact again
    · have due : u.state = .sending ∧ 0 < out.length := by
        by_contra idle
        rw [timer, if_neg idle] at runs
        cases runs
      simp only [List.length_map]
      rw [if_pos due]
      rfl
  · exact ⟨out, kept, fresh, queue, outstanding, waiting, numbers, unnumbered, window, count, retries, by simp⟩

theorem afterAcked_eq_some {c : BitVec 8} {q left : List Notice} (h : afterAcked c q = some left) :
    ∃ gone n, q = gone ++ n :: left ∧ n.state = .outstanding := by
  induction q with
  | nil => cases h
  | cons n q ih =>
    unfold afterAcked at h
    split at h
    · next is =>
      cases h
      exact ⟨[], n, rfl, (Notice.outstandingAs_iff.mp is).1⟩
    · obtain ⟨gone, m, rfl, is⟩ := ih h
      exact ⟨n :: gone, m, rfl, is⟩

theorem NoticeLaw.acked (h : NoticeLaw u) {c : BitVec 8} {left : List Notice} (hl : afterAcked c u.queue = some left) :
    NoticeLaw (u.acked left) := by
  obtain ⟨out, kept, fresh, queue, outstanding, waiting, numbers, unnumbered, window, count, retries, timer⟩ :=
    noticeLaw_iff.mp h
  obtain ⟨gone, n, split, is⟩ := afterAcked_eq_some hl
  have notLater : ¬ n ∈ kept ++ fresh := fun hn => NoticeState.noConfusion (is.symm.trans (waiting n hn).1)
  have inOut : ∃ back, out = gone ++ n :: back ∧ left = back ++ kept ++ fresh := by
    rw [queue, List.append_assoc] at split
    obtain ⟨mid, rfl, rest⟩ | ⟨mid, rfl, rest⟩ := List.append_eq_append_iff.mp split
    · exact absurd (rest ▸ List.mem_append_right _ List.mem_cons_self) notLater
    · cases mid with
      | nil => exact absurd (rest ▸ List.mem_cons_self) notLater
      | cons m back =>
        obtain ⟨rfl, rfl⟩ := List.cons.inj rest
        exact ⟨back, rfl, (List.append_assoc ..).symm⟩
  obtain ⟨back, rfl, rfl⟩ := inOut
  have open' : ∀ m ∈ back, m.state = .outstanding := fun m hm =>
    outstanding m (List.mem_append_right _ (List.mem_cons_of_mem _ hm))
  have counted : outstandingCount (back ++ kept ++ fresh) = back.length := by
    rw [List.append_assoc]
    exact outstandingCount_split open' fun m hm => (waiting m hm).1
  rw [noticeLaw_iff]
  refine ⟨back, kept, fresh, rfl, open', waiting, ?_, unnumbered, ?_, ?_, Nat.zero_le _, ?_⟩
  · have total : (gone ++ n :: back ++ kept).length = (gone.length + 1) + (back ++ kept).length := by
      simp only [List.length_append, List.length_cons]
      omega
    have later := congrArg (List.drop (gone.length + 1)) numbers
    have cut : (gone ++ n :: back ++ kept).drop (gone.length + 1) = back ++ kept := by simp
    rw [total, numbersBelow_drop, ← List.map_drop, cut] at later
    exact later
  · simp only [List.length_append, List.length_cons] at window
    omega
  · rw [queue] at count
    simp only [List.length_append, List.length_cons] at count
    simp only [NoticeUnit.acked, List.length_append]
    omega
  · simp only [NoticeUnit.acked, counted, Config.retransmitMs, true_and]
    by_cases none : back.length = 0 <;> simp [none, Nat.pos_iff_ne_zero]

theorem NoticeLaw.resynced (h : NoticeLaw u) : NoticeLaw u.resynced := by
  obtain ⟨out, kept, fresh, queue, outstanding, waiting, numbers, unnumbered, window, count, retries, timer⟩ :=
    noticeLaw_iff.mp h
  rw [NoticeUnit.resynced_eq, noticeLaw_iff]
  have returned (n : Notice) (hn : n ∈ u.queue) : n.returned.state = .waiting ∧ n.returned.resendDue = false := by
    unfold Notice.returned
    split
    · exact ⟨rfl, rfl⟩
    · next notOut =>
      rw [queue, List.append_assoc] at hn
      obtain hn | hn := List.mem_append.mp hn
      · exact absurd (outstanding n hn) notOut
      · exact waiting n hn
  refine ⟨[], (out ++ kept).map Notice.returned, fresh.map Notice.returned, ?_, nofun, fun n hn => ?_, ?_, fun n hn => ?_,
    Nat.zero_le _, ?_, Nat.zero_le _, ?_⟩
  · simp [queue]
  · rw [← List.map_append, ← queue] at hn
    obtain ⟨m, hm, rfl⟩ := List.mem_map.mp hn
    exact returned m hm
  · simpa [Notice.returned_seq, Function.comp_def] using numbers
  · obtain ⟨m, hm, rfl⟩ := List.mem_map.mp hn
    rw [Notice.returned_seq]
    exact unnumbered m hm
  · simpa using count
  · simp

theorem NoticeUnit.broken_law (u : NoticeUnit) : NoticeLaw u.broken := by
  rw [noticeLaw_iff]
  refine ⟨[], [], u.broken.queue, rfl, nofun, fun n hn => ?_, rfl, fun n hn => ?_, Nat.zero_le _, ?_, Nat.zero_le _, ?_⟩
  · obtain rfl | hn := List.mem_cons.mp hn
    · exact ⟨rfl, rfl⟩
    · obtain ⟨m, -, rfl⟩ := List.mem_map.mp hn
      exact ⟨rfl, rfl⟩
  · obtain rfl | hn := List.mem_cons.mp hn
    · rfl
    · obtain ⟨m, -, rfl⟩ := List.mem_map.mp hn
      rfl
  · simp only [NoticeUnit.broken, List.length_cons, List.length_map, List.length_take, Config.noticeCapacity]
    omega
  · simp [NoticeUnit.broken]

end Laws

/-! ## The reply cache (R156) -/

theorem CacheLaw.nil : CacheLaw [] := ⟨Nat.zero_le _, .nil, nofun⟩

theorem CacheLaw.enter {cache : List CacheEntry} (h : CacheLaw cache) (tag kind : Byte) (r : Reply) :
    CacheLaw (enterCache cache tag kind r) := by
  obtain ⟨count, apart, tagged⟩ := h
  rw [enterCache_eq]
  split
  · exact ⟨count, apart, tagged⟩
  · next hasTag =>
    generalize is : cache.filter (fun e : CacheEntry => decide (¬ (e.tag = tag ∧ e.kind = kind))) = others
    have other : ∀ e ∈ others, e ∈ cache ∧ ¬ (e.tag = tag ∧ e.kind = kind) := by
      intro e he
      rw [← is, List.mem_filter] at he
      exact ⟨he.1, of_decide_eq_true he.2⟩
    have pairs : (others ++ [({ tag := tag, kind := kind, reply := r } : CacheEntry)]).Pairwise
        (fun d e => ¬ (d.tag = e.tag ∧ d.kind = e.kind)) := by
      refine List.pairwise_append.mpr ⟨is ▸ apart.filter _, List.pairwise_singleton _ _, fun d hd e he => ?_⟩
      rw [List.mem_singleton.mp he]
      exact (other d hd).2
    refine ⟨?_, pairs.drop, fun e he => ?_⟩
    · rw [List.length_drop]
      omega
    · obtain he | he := List.mem_append.mp (List.mem_of_mem_drop he)
      · exact tagged e (other e he).1
      · rw [List.mem_singleton.mp he]
        exact hasTag

end Sys2Proof.Machine
end

section
/-! What one command can do to the part, beside its frames and its notices: the inversion of `exec` that the laws of the
part are proved from. -/

namespace Sys2Proof.Machine

set_option Elab.async false

/-! ## The host link and the notice unit set aside -/

/-- `t` differs from `s` in the host link and the notice unit at most, has the same work in hand, and keeps the laws of
the notices and of the reply cache. -/
structure SameEngine (s t : State) : Prop where
  frame : t = { s with link := t.link, notices := t.notices }
  work : t.link.work = s.link.work
  notices : NoticeLaw s.notices → NoticeLaw t.notices
  cache : CacheLaw s.link.cache → CacheLaw t.link.cache

theorem SameEngine.refl (s : State) : SameEngine s s := ⟨rfl, rfl, id, id⟩

theorem SameEngine.trans {s t u : State} (h : SameEngine s t) (k : SameEngine t u) : SameEngine s u := by
  obtain ⟨hst, hw, hn, hc⟩ := h
  obtain ⟨htu, kw, kn, kc⟩ := k
  refine ⟨?_, kw.trans hw, kn ∘ hn, kc ∘ hc⟩
  rw [hst] at htu
  exact htu

theorem State.transmit_noticeLaw {s : State} (h : NoticeLaw s.notices) : NoticeLaw s.transmit.notices := by
  unfold State.transmit State.beginNotice
  split
  · exact h
  · split
    · exact h
    · split
      · exact h
      · next offered => exact h.begun offered

theorem SameEngine.transmit (s : State) : SameEngine s s.transmit :=
  ⟨by rw [s.transmit_frame], s.transmit_link.2.2.2, State.transmit_noticeLaw, s.transmit_link.2.1 ▸ id⟩

theorem SameEngine.takeRequest (s : State) : SameEngine s s.takeRequest := ⟨rfl, rfl, id, id⟩

/-- A reply written by a handler that has no work in hand. -/
theorem SameEngine.answer {s : State} (hw : s.link.work = none) (r : Reply) : SameEngine s (s.answer r) :=
  ⟨rfl, hw.symm, id, id⟩

/-! ## The acts -/

/-- Work that neither claims nor withdraws anything, and that no job and no plane is bound by. -/
def QuietWork (w : Option Work) : Prop :=
  w = none ∨ (∃ n, w = some (.cancel n)) ∨ (∃ k, w = some (.resetReply k)) ∨ ∃ k, w = some (.resetDue k)

/-- The row of a drawing job that has just been completed: `t` is the part with the row drawn and counted, `height` the
height of its rectangle, and `goesOn` the part where the job goes on (R63, R64, R77, R99). -/
inductive RowDrawn (s : State) (j : Job) : State → Nat → State → Prop
  | fill (d : DrawFields) (hb : j.body = .fill d) :
    RowDrawn s j ((s.fillRow j d).setHead j.nextRow) d.rect.h ((s.fillRow j d).setHead j.nextRow)
  | block (d : DrawFields) (src sx sy : Nat) (hb : j.body = .block d src sx sy) :
    RowDrawn s j ((s.blockRow j d).setHead j.nextRow) d.rect.h ((s.blockRow j d).setHead j.nextRow)
  | text (h font : Nat) (pen base : Int) (ink : Px) (fn : BitVec 4) (codes : List Nat) (hold : Hold)
    (hb : j.body = .text h font pen base ink fn codes) (hh : s.writeHold = some hold) :
    RowDrawn s j ((s.textRow j h hold.rect fn ink).setHead j.nextRow) hold.rect.h
      ((s.textRow j h hold.rect fn ink).setHead j.nextRow)
  | load (h : Nat) (r : Rect) (fn : BitVec 4) (total got : Nat) (hb : j.body = .load h r fn total got) :
    RowDrawn s j
      (State.setHead { s.loadRow j h r fn with staging := s.staging.drop (s.rowByteCount h r.w) } j.nextRow) r.h
      (State.loadProceed
        (State.setHead { s.loadRow j h r fn with staging := s.staging.drop (s.rowByteCount h r.w) } j.nextRow)
        j.nextRow (s.rowByteCount h r.w))

/-- What one command does to the part, in the cases in which it does something, with the checks that have passed. The
commands of the host link and of the notice unit are `idle` here. -/
inductive Act (s : State) : State → Prop
  | idle : Act s s
  | work (w : Option Work) (hs : QuietWork s.link.work) (hw : QuietWork w) :
    Act s { s with link := { s.link with work := w } }
  | blank (u : State) (hb : u.Blank) (hm : u.mem = s.mem ∨ u.mem = []) (hp : u.pending = s.pending) : Act s u
  | patterns (v : Vector Pattern 16) : Act s { s with patterns := v }
  | planeMade (width height depth fill h first : Nat) (left : List Extent)
    (hf : newPlaneFieldsOk width height depth fill = true) (hp : s.packActive = false) (hh : s.freeHandle = some h)
    (ha : allocate s.freeList (planeBlocks width height depth) = some (first, left)) (hw : s.link.work = none) :
    Act s ((State.setPlane { s with freeList := left } h (newPlaneRecord width height depth first)).occupy
      (.fill h (BitVec.ofNat 2 fill)))
  | fillEnded (h : Nat) (v : Px) (hw : s.link.work = some (.fill h v)) : Act s (s.endFill h v)
  | planeFreed (h : Nat) (hs : (s.plane h).state = .live)
    (hb : ¬ ((s.plane h).boundA = true ∨ (s.plane h).boundB = true)) (hp : s.packActive = false)
    (hr : (s.plane h).refCount = 0) (hw : s.link.work = none) : Act s (s.releasePlane h)
  | planeRetired (h : Nat) (hs : (s.plane h).state = .live)
    (hb : ¬ ((s.plane h).boundA = true ∨ (s.plane h).boundB = true)) (hp : s.packActive = false)
    (hr : ¬ (s.plane h).refCount = 0) (hw : s.link.work = none) :
    Act s (s.setPlane h { s.plane h with state := .retiring })
  | fontMade (id blocks lineHeight fallback first : Nat) (left : List Extent) (hid : id ≤ 3) (hb : 1 ≤ blocks)
    (hf : ¬ (s.font id).state = .defined) (ha : allocate s.freeList blocks = some (first, left)) :
    Act s (State.setFont { s with freeList := left } id (newFontRecord first blocks lineHeight fallback))
  | glyphAppended (g : Glyph) (bitmap : List Byte) (hid : g.font ≤ 3) (hd : ¬ (s.font g.font).state = .undefined)
    (ho : g.offset = (s.font g.font).usedBytes) (hl : g.length = bitmap.length)
    (hr : ¬ (s.font g.font).freeBytes < bitmap.length)
    (hc : ¬ ((findGlyph s.glyphs g.font g.code).isNone = true ∧ Config.glyphCapacity ≤ s.glyphs.length)) :
    Act s (s.appendGlyph g bitmap)
  | fontDropped (id : Nat) (hid : id ≤ 3) (hd : ¬ (s.font id).state = .undefined) : Act s (s.dropFont id)
  | submitted (b : JobBody) (report : Bool) (hr : s.jobs.length < Config.jobCapacity) (hp : s.planeStatus b = none)
    (hw : s.link.work = none) :
    Act s (if s.jobs.isEmpty = true then (s.accept b report).examine else s.accept b report)
  | waitingRemoved (n : Nat) (j : Job) (hj : s.jobs.find? (fun j => j.number == n) = some j)
    (hr : j.running = false) (hw : s.link.work = none) : Act s (s.removeWaiting j)
  | runningStopped (n : Nat) (j : Job) (hj : s.jobs.find? (fun j => j.number == n) = some j)
    (hr : j.running = true) (hw : s.link.work = none) : Act s (s.stopHead j).examine
  | flushed (ht : (s.flushWaiting false).jobs = []) (hw : s.link.work = none) : Act s (s.flushWaiting false)
  | flushStopped (j : Job) (rest : List Job) (ht : (s.flushWaiting false).jobs = j :: rest) (hw : s.link.work = none) :
    Act s ((s.flushWaiting false).stopHead j)
  | flushWaits (j : Job) (rest : List Job) (count first last : Nat) (ht : (s.flushWaiting false).jobs = j :: rest)
    (hw : s.link.work = none) : Act s ((s.flushWaiting false).occupy (.flush count first last))
  | staged (j : Job) (bytes : List Byte) (hj : s.feeding = some j) (hb : ¬ j.body.bytesWanted < bytes.length)
    (hs : ¬ s.stagingFree < bytes.length) : Act s (s.stage bytes).afterStaging
  | rowEnded (j : Job) (rest : List Job) (t goesOn : State) (height : Nat) (st : Status) (hj : s.jobs = j :: rest)
    (ha : j.state = .active) (hd : RowDrawn s j t height goesOn) : Act s (t.afterRow j.nextRow height st goesOn)
  | timedOut (j : Job) (rest : List Job) (hj : s.jobs = j :: rest) (ha : j.state = .awaitingData) :
    Act s (s.endHead j .dataTimeout).examine
  | extentMoved (j : Job) (rest : List Job) (x : OwnedExtent) (t : Nat) (hj : s.jobs = j :: rest)
    (hp : s.packActive = true) (hl : s.layoutLock = true) (hm : s.nextMove = some (x, t)) : Act s (s.extentMoved j x t)
  | engineReset (hw : s.link.work = some (.resetDue .engine)) : Act s s.beginEngineReset
  | fullReset (hw : s.link.work = some (.resetDue .full)) : Act s s.fullBegun
  | queryClaimed (q : PanelRequest) (hr : panelRangesOk q = true) (hq : s.panelStatus q = none)
    (hw : s.link.work = none) : Act s (s.occupy (.query q)).arbitrate
  | queried (q : PanelRequest) (id : Byte) (hb : s.bus.owner = .query) (hw : s.link.work = some (.query q)) :
    Act s (s.queryResult q id).giveBack
  | portReleased (p : Port) (hs : ¬ (s.port p).state = .unconfigured) (hb : (s.port p).busy = false)
    (hw : s.link.work = none) : Act s ((s.unbind p).setPort p unconfiguredPort)
  | faultCleared (p : Port) (c : FaultCause) (hs : (s.port p).state = .fault c) :
    Act s (s.setPort p (s.port p).cleared)
  | transaction (p : Port) (set : RefreshSet) (cmd : StreamCommand) (mark : Bool)
    (hb : s.onBus = some (p, set, cmd, mark)) : Act s (s.nextTransaction p set cmd mark)
  | updated (p : Port) (set : RefreshSet) (mark : Bool) (order : BoundaryOrder)
    (hb : s.onBus = some (p, set, .update, mark)) :
    Act s ((s.setPort p ((s.port p).settle set mark)).afterStreaming order)
  | aborted (p : Port) (set : RefreshSet) (mark : Bool) (order : BoundaryOrder)
    (hb : s.onBus = some (p, set, .abort, mark)) :
    Act s ((s.setPort p { s.port p with state := .idle }).afterStreaming order)
  | lineRose (p : Port) : Act s (s.setBusyLine p true)
  | lineFell (p : Port) : Act s ((s.setBusyLine p false).lineFallen p)
  | busyExpired (p : Port) : Act s (s.busyExpired p)
  | holdOffExpired (p : Port) :
    Act s (State.holdOffExpired (s.setPort p { s.port p with holdOffTimer := .stopped }) p)

/-- The answer of a command: an act, beside what the link and the notice unit do before and after it. -/
def Acts (s : State) (o : Result) : Prop :=
  ∃ s' u t, o = .next t ∧ SameEngine s s' ∧ Act s' u ∧ SameEngine u t

theorem Acts.same {s t : State} (h : SameEngine s t) : Acts s (.next t) := ⟨s, s, t, rfl, .refl s, .idle, h⟩

theorem Acts.transmit {s u : State} (h : Act s u) : Acts s (.next u.transmit) :=
  ⟨s, u, u.transmit, rfl, .refl s, h, .transmit u⟩

theorem Acts.act {s u : State} (h : Act s u) : Acts s (.next u) := ⟨s, u, u, rfl, .refl s, h, .refl u⟩

/-- A FULL reset that takes effect after an act leaves nothing of it. -/
theorem Acts.tryFullReset {s u : State} (h : Act s u) (hm : u.mem = s.mem) (hp : u.pending = s.pending) :
    Acts s (.next u.tryFullReset.transmit) := by
  obtain waits | done := u.tryFullReset_cases
  · rw [waits]
    exact .transmit h
  · rw [done]
    exact .transmit (.blank _ u.fullResetDone_blank (.inl hm) hp)

/-! ## The requests -/

/-- What the link of a part is after the rule of the request that its handler has taken in hand: the reply written, the
handler occupied, or a RESET answered whose slot is kept. -/
def Replied (s t : State) : Prop :=
  (∃ r, t.link = (s.answer r).link) ∨ (∃ w, w.keepsSlot = true ∧ t.link = (s.occupy w).link) ∨
    ∃ k, t.link = (s.answerReset k).link

/-- A request served: an act, and then what the link and the notice unit do. -/
def Served (s t : State) : Prop := ∃ u, Act s u ∧ SameEngine u t ∧ Replied s t

/-- A request's rule serves it where the handler has no work in hand. -/
def RuleActs (f : List Byte → State → State) : Prop := ∀ b s, s.link.work = none → Served s (f b s)

theorem RuleActs.serveWhere {f : List Byte → State → State} (hf : RuleActs f) (s : State) (t : Byte → Bool) :
    Acts s (.next (s.serveWhere t f)) := by
  obtain none | ⟨b, hw, done⟩ := serveWhere_cases s t f
  · rw [none]
    exact .same (.refl s)
  · obtain ⟨u, hu, same, -⟩ := hf b s.takeRequest hw
    rw [done]
    exact ⟨_, u, _, rfl, .takeRequest s, hu, same.trans (.transmit _)⟩

theorem RuleActs.serve {f : List Byte → State → State} (hf : RuleActs f) (s : State) (kind : Byte) :
    Acts s (.next (s.serve kind f)) :=
  hf.serveWhere s _

section Rules

variable {s : State} (hw : s.link.work = none)
include hw

/-- A request that is answered and does nothing else. -/
theorem answer_acts (r : Reply) : Served s (s.answer r) := ⟨s, .idle, .answer hw r, .inl ⟨r, rfl⟩⟩

theorem refuse_acts (st : Status) : Served s (s.refuse st) := answer_acts hw _

/-- A request that is answered after an act that leaves the link. -/
theorem act_answer {u : State} (h : Act s u) (hu : u.link = s.link) (r : Reply) : Served s (u.answer r) := by
  refine ⟨u, h, .answer (hu ▸ hw) r, .inl ⟨r, ?_⟩⟩
  unfold State.answer
  rw [hu]

/-- A request that is answered after the engine has acted. -/
theorem engine_answer {u : State} (h : Act s u) (hu : EngineOnly s u) (r : Reply) : Served s (u.answer r) := by
  obtain ⟨-, -, -, -, -, link, -⟩ := hu.keeps
  exact act_answer hw h link r

omit hw in
/-- A request that occupies the handler. -/
theorem act_occupy {u : State} {w : Work} (h : Act s (u.occupy w)) (hu : u.link = s.link) (keeps : w.keepsSlot = true) :
    Served s (u.occupy w) := by
  refine ⟨_, h, .refl _, .inr (.inl ⟨w, keeps, ?_⟩)⟩
  unfold State.occupy
  rw [hu]

end Rules

theorem RuleActs.fixedLength {f : List Byte → State → State} (hf : RuleActs f) (n : Nat) :
    RuleActs (fixedLength n f) := by
  intro b s hw
  unfold Machine.fixedLength
  split
  · exact hf b s hw
  · exact refuse_acts hw _

theorem RuleActs.resetRequest : RuleActs resetRequest := by
  intro b s hw
  have kept (k : ResetKind) : Served s (s.answerReset k) :=
    ⟨_, .work (some (.resetReply k)) (.inl hw) (.inr (.inr (.inl ⟨k, rfl⟩))), ⟨rfl, rfl, id, id⟩, .inr (.inr ⟨k, rfl⟩)⟩
  unfold Machine.resetRequest
  split
  · exact kept .engine
  · exact kept .full
  · exact refuse_acts hw _

theorem RuleActs.ping : RuleActs ping := by
  intro b s hw
  unfold Machine.ping
  split
  · exact answer_acts hw _
  · exact refuse_acts hw _

theorem RuleActs.ackRequest : RuleActs ackRequest := by
  intro b s hw
  unfold Machine.ackRequest
  split
  · next acked => exact ⟨s, .idle, ⟨rfl, hw.symm, fun law => law.acked acked, id⟩, .inl ⟨_, rfl⟩⟩
  · exact answer_acts hw _

theorem RuleActs.resync : RuleActs resync :=
  fun _ s hw => ⟨s, .idle, ⟨rfl, hw.symm, NoticeLaw.resynced, id⟩, .inl ⟨_, rfl⟩⟩

theorem RuleActs.newPlane : RuleActs newPlane := by
  intro b s hw
  unfold Machine.newPlane
  dsimp only
  split
  · exact refuse_acts hw _
  · next fields =>
    split
    · exact refuse_acts hw _
    · next quiet =>
      split
      · exact refuse_acts hw _
      · next h hh =>
        split
        · exact answer_acts hw _
        · next first left ha =>
          exact act_occupy (.planeMade _ _ _ _ h first left (Bool.not_eq_false _ ▸ fields) (Bool.eq_false_iff.mpr quiet)
            hh ha hw) (State.setPlane_link ..) rfl

theorem RuleActs.freePlane : RuleActs freePlane := by
  intro b s hw
  unfold Machine.freePlane
  dsimp only
  split
  · exact refuse_acts hw _
  · next notFree =>
    split
    · exact refuse_acts hw _
    · next notRetiring =>
      have live : (s.plane (fieldU8 b 0)).state = .live := by
        cases hs : (s.plane (fieldU8 b 0)).state with
        | free => exact absurd hs notFree
        | live => rfl
        | retiring => exact absurd hs notRetiring
      split
      · exact refuse_acts hw _
      · next unbound =>
        split
        · exact refuse_acts hw _
        · next quiet =>
          have quiet := Bool.eq_false_iff.mpr quiet
          split
          · next unnamed => exact engine_answer hw (.planeFreed _ live unbound quiet unnamed hw) (.releasePlane s _) _
          · next named => exact engine_answer hw (.planeRetired _ live unbound quiet named hw) (.setPlane s _ _) _

theorem RuleActs.planeInfo : RuleActs planeInfo := by
  intro b s hw
  unfold Machine.planeInfo
  dsimp only
  split
  · exact answer_acts hw _
  · exact refuse_acts hw _

theorem RuleActs.storeInfo : RuleActs storeInfo := fun _ _ hw => answer_acts hw _

theorem RuleActs.setPattern : RuleActs setPattern := by
  intro b s hw
  unfold Machine.setPattern
  dsimp only
  split
  · exact act_answer hw (.patterns (s.patterns.setIfInBounds (fieldU8 b 0) (patternOfBytes (b.drop 1)))) rfl _
  · exact refuse_acts hw _

theorem RuleActs.getPattern : RuleActs getPattern := by
  intro b s hw
  unfold Machine.getPattern
  dsimp only
  split
  · exact answer_acts hw _
  · exact refuse_acts hw _

theorem RuleActs.newFont : RuleActs newFont := by
  intro b s hw
  unfold Machine.newFont
  dsimp only
  split
  · exact refuse_acts hw _
  · next fields =>
    obtain ⟨hid, hb, -, -⟩ := Classical.not_not.mp fields
    split
    · exact refuse_acts hw _
    · split
      · exact refuse_acts hw _
      · next undefined =>
        split
        · exact answer_acts hw _
        · next first left ha => exact act_answer hw (.fontMade _ _ _ _ first left hid hb undefined ha) rfl _

theorem glyphFieldsOk_font {g : Glyph} (h : glyphFieldsOk g = true) : g.font ≤ 3 := by
  simp only [glyphFieldsOk, Bool.and_eq_true, decide_eq_true_eq] at h
  omega

theorem RuleActs.glyphRequest : RuleActs glyphRequest := by
  intro b s hw
  unfold Machine.glyphRequest
  dsimp only
  split
  · exact refuse_acts hw _
  · split
    · exact refuse_acts hw _
    · next fields =>
      split
      · exact refuse_acts hw _
      · split
        · exact refuse_acts hw _
        · next defined =>
          split
          · exact refuse_acts hw _
          · split
            · exact answer_acts hw _
            · next room =>
              split
              · exact answer_acts hw _
              · next capacity =>
                have length : (b.drop 10).length = b.length - 10 := List.length_drop
                refine act_answer hw (.glyphAppended _ (b.drop 10) (glyphFieldsOk_font (Bool.not_eq_false _ ▸ fields))
                  defined rfl length.symm (length ▸ room) capacity) rfl _

theorem RuleActs.dropFontRequest : RuleActs dropFontRequest := by
  intro b s hw
  unfold Machine.dropFontRequest
  dsimp only
  split
  · exact refuse_acts hw _
  · next hid =>
    split
    · exact refuse_acts hw _
    · next defined =>
      split
      · exact refuse_acts hw _
      · split
        · exact refuse_acts hw _
        · exact act_answer hw (.fontDropped _ (Classical.not_not.mp hid) defined) rfl _

theorem RuleActs.fontInfo : RuleActs fontInfo := by
  intro b s hw
  unfold Machine.fontInfo
  dsimp only
  split
  · exact answer_acts hw _
  · exact refuse_acts hw _

/-- An accepted job leaves the link. -/
theorem State.accept_link (s : State) (b : JobBody) (report : Bool) : (s.accept b report).link = s.link := by
  have raised : EngineOnly s (b.planes.foldl State.raiseRef s) := EngineOnly.foldl _ (fun t h => .setPlane t h _) _ s
  exact raised.keeps.2.2.2.2.2.1

theorem RuleActs.submit : RuleActs submit := by
  intro b s hw
  unfold Machine.submit
  split
  · exact refuse_acts hw _
  · split
    · next body report _ _ =>
      split
      · exact answer_acts hw _
      · next room =>
        split
        · exact refuse_acts hw _
        · next status =>
          refine act_answer hw (.submitted body report (Nat.not_le.mp room) status hw) ?_ _
          split
          · rw [(EngineOnly.examine _).keeps.2.2.2.2.2.1, State.accept_link]
          · rw [State.accept_link]
    · exact refuse_acts hw _

theorem EngineOnly.removeWaiting (s : State) (j : Job) : EngineOnly s (s.removeWaiting j) := by
  unfold State.removeWaiting
  dsimp only
  split
  · exact (EngineOnly.depart s _ _ _).trans (.examine _)
  · exact .depart s _ _ _

theorem RuleActs.cancel : RuleActs cancel := by
  intro b s hw
  unfold Machine.cancel
  dsimp only
  split
  · exact refuse_acts hw _
  · next j hj =>
    split
    · next waiting => exact engine_answer hw (.waitingRemoved _ j hj waiting hw) (.removeWaiting s j) _
    · next running =>
      have running := Bool.not_eq_false _ ▸ running
      split
      · exact engine_answer hw (.runningStopped _ j hj running hw) ((EngineOnly.stopHead s j).trans (.examine _)) _
      · exact act_occupy (u := s) (.work (some (.cancel _)) (.inl hw) (.inr (.inl ⟨_, rfl⟩))) rfl rfl

theorem RuleActs.flush : RuleActs flush := by
  intro b s hw
  have left : EngineOnly s (s.flushWaiting false) := .depart s _ _ _
  unfold Machine.flush
  dsimp only
  split
  · next ht => exact engine_answer hw (.flushed ht hw) left _
  · next j rest ht =>
    split
    · exact engine_answer hw (.flushStopped j rest ht hw) (left.trans (.stopHead _ j)) _
    · obtain ⟨-, -, -, -, -, link, -⟩ := left.keeps
      exact act_occupy (.flushWaits j rest _ _ _ ht hw) link rfl

theorem RuleActs.queueInfo : RuleActs queueInfo := by
  intro b s hw
  unfold Machine.queueInfo
  split
  · exact refuse_acts hw _
  · split
    · exact answer_acts hw _
    · split
      · exact refuse_acts hw _
      · exact answer_acts hw _

theorem State.afterStaging_link (s : State) : s.afterStaging.link = s.link := by
  unfold State.afterStaging
  repeat' split
  all_goals rfl

theorem RuleActs.dataRequest : RuleActs dataRequest := by
  intro b s hw
  unfold Machine.dataRequest
  dsimp only
  split
  · exact refuse_acts hw _
  · split
    · exact answer_acts hw _
    · next j hj =>
      split
      · exact answer_acts hw _
      · split
        · exact answer_acts hw _
        · next wanted =>
          split
          · exact answer_acts hw _
          · next room =>
            have length : (b.drop 2).length = b.length - 2 := List.length_drop
            refine act_answer hw (.staged j (b.drop 2) hj (length ▸ wanted) (length ▸ room)) ?_ _
            rw [State.afterStaging_link]
            rfl

theorem RuleActs.configurePanel : RuleActs configurePanel := by
  intro b s hw
  unfold Machine.configurePanel
  split
  · exact refuse_acts hw _
  · next q hq =>
    split
    · exact refuse_acts hw _
    · next status =>
      have ranges : panelRangesOk q = true := by
        unfold panelFields at hq
        split at hq
        · dsimp only at hq
          split at hq
          · next ok => exact Option.some.inj hq ▸ ok
          · cases hq
        · cases hq
      refine ⟨_, .queryClaimed q ranges status hw, .refl _, .inr (.inl ⟨.query q, rfl, ?_⟩)⟩
      obtain ⟨-, -, -, -, -, -, -, -, link⟩ := (PortsOnly.arbitrate (s.occupy (.query q))).keeps
      exact link

theorem State.unbind_link (s : State) (p : Port) : (s.unbind p).link = s.link := by
  rw [State.unbind_eq, State.setPlane_link]

theorem RuleActs.releasePanel : RuleActs releasePanel := by
  intro b s hw
  unfold Machine.releasePanel
  split
  · exact refuse_acts hw _
  · next p _ =>
    split
    · exact refuse_acts hw _
    · next configured =>
      split
      · exact refuse_acts hw _
      · next quiet =>
        refine act_answer hw (.portReleased p configured (Bool.eq_false_iff.mpr quiet) hw) ?_ _
        rw [State.setPort_link, State.unbind_link]

theorem RuleActs.clearFault : RuleActs clearFault := by
  intro b s hw
  unfold Machine.clearFault
  split
  · exact refuse_acts hw _
  · next p _ =>
    split
    · next c hs => exact act_answer hw (.faultCleared p c hs) (State.setPort_link ..) _
    · exact refuse_acts hw _

theorem RuleActs.panelInfo : RuleActs panelInfo := by
  intro b s hw
  unfold Machine.panelInfo
  split
  · exact refuse_acts hw _
  · exact answer_acts hw _

/-! ## The events -/

theorem State.takeByte_same (s : State) (b : Byte) : SameEngine s (s.takeByte b) := by
  have arrived (t : State) (tag kind : Byte) (body : List Byte) : SameEngine t (t.arrive tag kind body) := by
    have kept : (t.link.arrive tag kind body).work = t.link.work ∧
        (t.link.arrive tag kind body).cache = t.link.cache := by
      unfold Link.arrive
      repeat' split
      all_goals exact ⟨rfl, rfl⟩
    exact ⟨rfl, kept.1, id, fun law => (congrArg CacheLaw kept.2).symm ▸ law⟩
  have judged (kind tag : Byte) (body : List Byte) (hi lo : Byte) : SameEngine s (s.judge kind tag body hi lo) := by
    unfold State.judge
    split
    · exact ⟨rfl, rfl, id, id⟩
    · split
      · exact ⟨rfl, rfl, id, id⟩
      · exact SameEngine.trans (t := s.setReceiver .hunt) ⟨rfl, rfl, id, id⟩ (arrived ..)
  unfold State.takeByte
  split
  · split <;> exact ⟨rfl, rfl, id, id⟩
  · exact ⟨rfl, rfl, id, id⟩
  · split <;> exact ⟨rfl, rfl, id, id⟩
  · exact ⟨rfl, rfl, id, id⟩
  · exact ⟨rfl, rfl, id, id⟩
  · exact ⟨rfl, rfl, id, id⟩
  · exact ⟨rfl, rfl, id, id⟩
  · exact judged ..

theorem State.frameReceived_same {s : State} {kind tag hi : Byte} {body : List Byte}
    (hr : s.link.receiver = .check kind tag body (some hi)) (lo : Byte) : SameEngine s (s.judge kind tag body hi lo) := by
  have taken : s.takeByte lo = s.judge kind tag body hi lo := by rw [State.takeByte, hr]
  exact taken ▸ s.takeByte_same lo

theorem Acts.frameReceived (s : State) (check : Byte) : Acts s (exec (.frameReceived check) s) := by
  show Acts s (execFrameReceived check s)
  unfold execFrameReceived
  split
  · next hr => exact .same ((State.frameReceived_same hr check).trans (.transmit _))
  · exact .same (.refl s)

theorem Acts.linkBreak (s : State) : Acts s (exec .linkBreak s) := by
  show Acts s (.next s.linkBroken.tryFullReset.transmit)
  have broken (w : Option Work) (hw : s.link.work = w) :
      ∃ u, Act s u ∧ SameEngine u s.linkBroken ∧ u.mem = s.mem ∧ u.pending = s.pending := by
    cases w with
    | none => exact ⟨s, .idle, ⟨rfl, by show workAfterBreak s.link.work = _; rw [hw]; rfl, fun _ => s.notices.broken_law, fun _ => .nil⟩, rfl, rfl⟩
    | some w =>
      cases w with
      | resetReply k =>
        exact ⟨_, .work none (.inr (.inr (.inl ⟨k, hw⟩))) (.inl rfl),
          ⟨rfl, by show workAfterBreak s.link.work = _; rw [hw]; rfl, fun _ => s.notices.broken_law, fun _ => .nil⟩, rfl, rfl⟩
      | _ => exact ⟨s, .idle, ⟨rfl, by show workAfterBreak s.link.work = _; rw [hw]; rfl, fun _ => s.notices.broken_law, fun _ => .nil⟩, rfl, rfl⟩
  obtain ⟨u, hu, same, -, -⟩ := broken _ rfl
  obtain waits | done := s.linkBroken.tryFullReset_cases
  · rw [waits]
    exact ⟨s, u, _, rfl, .refl s, hu, same.trans (.transmit _)⟩
  · rw [done]
    exact .transmit (.blank _ (State.fullResetDone_blank _) (.inl rfl) rfl)

theorem Acts.replyFrameSent (s : State) (order : ReplyEndOrder) : Acts s (exec (.replyFrameSent order) s) := by
  show Acts s (execReplyFrameSent order s)
  unfold execReplyFrameSent
  split
  · next tag kind r flags hs =>
    have chosen (t : State) : SameEngine t (t.chooseAfterReply order) := by
      unfold State.chooseAfterReply
      split
      · exact .refl t
      · exact .transmit t
    have sent : ∃ u, Act s u ∧ SameEngine u (s.replyEnded tag kind r) := by
      by_cases hr : s.link.sentInHand = false ∨ ∀ k, ¬ s.link.work = some (.resetReply k)
      · exact ⟨s, .idle, rfl, Link.workAfterReply_eq hr, id, fun law => law.enter tag kind r⟩
      · push Not at hr
        obtain ⟨hand, k, hk⟩ := hr
        refine ⟨_, .work (some (.resetDue k)) (.inr (.inr (.inl ⟨k, hk⟩))) (.inr (.inr (.inr ⟨k, rfl⟩))), rfl, ?_, id,
          fun law => law.enter tag kind r⟩
        exact Link.workAfterReply_reset hk (Bool.not_eq_false _ ▸ hand)
    obtain ⟨u, hu, same⟩ := sent
    obtain waits | done := (s.replyEnded tag kind r).tryFullReset_cases
    · refine ⟨s, u, _, rfl, .refl s, hu, same.trans ?_⟩
      exact waits.symm ▸ chosen (s.replyEnded tag kind r)
    · refine ⟨s, _, _, rfl, .refl s, .blank _ (State.fullResetDone_blank (s.replyEnded tag kind r)) (.inl rfl) rfl, ?_⟩
      exact done.symm ▸ chosen (s.replyEnded tag kind r).fullResetDone
  · exact .same (.refl s)

theorem Acts.noticeFrameSent (s : State) : Acts s (exec .noticeFrameSent s) := by
  show Acts s (execNoticeFrameSent s)
  unfold execNoticeFrameSent
  split
  · obtain waits | done := s.frameEnded.tryFullReset_cases
    · exact .same (SameEngine.trans (t := s.frameEnded) ⟨rfl, rfl, id, id⟩ (waits.symm ▸ .transmit s.frameEnded))
    · exact ⟨s, _, _, rfl, .refl s, .blank _ (State.fullResetDone_blank s.frameEnded) (.inl rfl) rfl,
        done.symm ▸ .transmit s.frameEnded.fullResetDone⟩
  · exact .same (.refl s)

theorem Acts.newPlaneFillEnd (s : State) : Acts s (exec .newPlaneFillEnd s) := by
  show Acts s (execNewPlaneFillEnd s)
  unfold execNewPlaneFillEnd
  split
  · next h v hw => exact .transmit (.fillEnded h v hw)
  · exact .same (.refl s)

theorem Acts.fillRowEnd (s : State) : Acts s (exec .fillRowEnd s) := by
  show Acts s (execFillRowEnd s)
  unfold execFillRowEnd
  split
  · exact .same (.refl s)
  · next j rest hj =>
    split
    · next d ha hb => exact .transmit (.rowEnded j rest _ _ _ .ok hj ha (.fill d hb))
    · exact .same (.refl s)

theorem Acts.blockRowEnd (s : State) : Acts s (exec .blockRowEnd s) := by
  show Acts s (execBlockRowEnd s)
  unfold execBlockRowEnd
  split
  · exact .same (.refl s)
  · next j rest hj =>
    split
    · next d _ _ _ ha hb => exact .transmit (.rowEnded j rest _ _ _ .ok hj ha (.block d _ _ _ hb))
    · exact .same (.refl s)

theorem Acts.loadRowEnd (s : State) : Acts s (exec .loadRowEnd s) := by
  show Acts s (execLoadRowEnd s)
  unfold execLoadRowEnd
  split
  · exact .same (.refl s)
  · next j rest hj =>
    split
    · next h r fn _ _ ha hb => exact .transmit (.rowEnded j rest _ _ _ .ok hj ha (.load h r fn _ _ hb))
    · exact .same (.refl s)

theorem Acts.textRowEnd (s : State) : Acts s (exec .textRowEnd s) := by
  show Acts s (execTextRowEnd s)
  unfold execTextRowEnd
  split
  · next j rest hold hj hh =>
    split
    · next h _ _ _ ink fn _ ha hb => exact .transmit (.rowEnded j rest _ _ _ _ hj ha (.text h _ _ _ ink fn _ hold hb hh))
    · exact .same (.refl s)
  · exact .same (.refl s)

theorem Acts.dataTimeout (s : State) : Acts s (exec .dataTimeout s) := by
  show Acts s (execDataTimeout s)
  unfold execDataTimeout
  split
  · exact .same (.refl s)
  · next j rest hj =>
    split
    · next awaits => exact .transmit (.timedOut j rest hj awaits.1)
    · exact .same (.refl s)

theorem Acts.extentMove (s : State) : Acts s (exec .extentMove s) := by
  show Acts s (execExtentMove s)
  unfold execExtentMove
  split
  · next j rest x t hj hm =>
    split
    · next packs => exact .transmit (.extentMoved j rest x t hj packs.1 packs.2 hm)
    · exact .same (.refl s)
  · exact .same (.refl s)

theorem Acts.engineReset (s : State) : Acts s (exec .engineReset s) := by
  show Acts s (execEngineReset s)
  unfold execEngineReset
  split
  · next hw => exact .transmit (.engineReset hw)
  · exact .same (.refl s)

theorem Acts.fullReset (s : State) : Acts s (exec .fullReset s) := by
  show Acts s (execFullReset s)
  unfold execFullReset
  split
  · next hw => exact .tryFullReset (u := s.fullBegun) (.fullReset hw) rfl rfl
  · exact .same (.refl s)

theorem Acts.query (s : State) (id : Byte) : Acts s (exec (.query id) s) := by
  show Acts s (execQuery id s)
  unfold execQuery
  split
  · next q hb hw => exact .transmit (.queried q id hb hw)
  · exact .same (.refl s)

theorem Acts.window (s : State) : Acts s (exec .window s) := by
  show Acts s (execWindow s)
  unfold execWindow
  split
  · next hb => exact .act (.transaction _ _ _ _ hb)
  · exact .same (.refl s)

theorem Acts.pixels (s : State) : Acts s (exec .pixels s) := by
  show Acts s (execPixels s)
  unfold execPixels
  split
  · next hb => exact .act (.transaction _ _ _ _ hb)
  · exact .same (.refl s)

/-- What follows STREAMING is within the engine. -/
theorem EngineOnly.afterStreaming (s : State) (order : BoundaryOrder) : EngineOnly s (s.afterStreaming order) := by
  cases order
  · exact (EngineOnly.recheckHead s).trans (PortsOnly.giveBack _).engine
  · exact (PortsOnly.giveBack s).engine.trans (.recheckHead _)

theorem EngineOnly.portThenStreaming (s : State) (p : Port) (r : PortRec) (order : BoundaryOrder) :
    EngineOnly s ((s.setPort p r).afterStreaming order) :=
  (PortsOnly.setPort s p r).engine.trans (.afterStreaming _ order)

theorem Acts.update (s : State) (order : BoundaryOrder) : Acts s (exec (.update order) s) := by
  show Acts s (execUpdate order s)
  unfold execUpdate
  split
  · next p set mark hb =>
    obtain ⟨mem, -, -, -, -, -, -, -, -, pending⟩ := (EngineOnly.portThenStreaming s p ((s.port p).settle set mark) order).keeps
    exact .tryFullReset (.updated p set mark order hb) mem pending
  · exact .same (.refl s)

theorem Acts.abort (s : State) (order : BoundaryOrder) : Acts s (exec (.abort order) s) := by
  show Acts s (execAbort order s)
  unfold execAbort
  split
  · next p set mark hb =>
    obtain ⟨mem, -, -, -, -, -, -, -, -, pending⟩ :=
      (EngineOnly.portThenStreaming s p { s.port p with state := .idle } order).keeps
    exact .tryFullReset (.aborted p set mark order hb) mem pending
  · exact .same (.refl s)

theorem Acts.busyLineFall (s : State) (p : Port) : Acts s (exec (.busyLineFall p) s) := by
  show Acts s (execBusyLineFall p s)
  unfold execBusyLineFall
  split
  · exact .transmit (.lineFell p)
  · exact .same (.refl s)

theorem Acts.busyTimerExpiry (s : State) (p : Port) : Acts s (exec (.busyTimerExpiry p) s) := by
  show Acts s (execBusyTimerExpiry p s)
  unfold execBusyTimerExpiry
  split
  · exact .transmit (.busyExpired p)
  · exact .same (.refl s)

theorem Acts.holdOffTimerExpiry (s : State) (p : Port) : Acts s (exec (.holdOffTimerExpiry p) s) := by
  show Acts s (execHoldOffTimerExpiry p s)
  unfold execHoldOffTimerExpiry
  split
  · exact .transmit (.holdOffExpired p)
  · exact .same (.refl s)

theorem Acts.retransmissionTimerExpiry (s : State) : Acts s (exec .retransmissionTimerExpiry s) := by
  show Acts s (execRetransmissionTimerExpiry s)
  unfold execRetransmissionTimerExpiry
  split
  · next runs =>
    exact .same (SameEngine.trans (t := { s with notices := s.notices.expire })
      ⟨rfl, rfl, fun law => law.expire runs, id⟩ (.transmit _))
  · exact .same (.refl s)

theorem Acts.byteReceived (s : State) (b : Byte) (good : Bool) : Acts s (exec (.byteReceived b good) s) := by
  show Acts s (execByteReceived b good s)
  unfold execByteReceived
  split
  · exact .same ((s.takeByte_same b).trans (.transmit _))
  · exact .same ⟨rfl, rfl, id, id⟩

theorem Acts.frameGapTimeout (s : State) : Acts s (exec .frameGapTimeout s) := by
  show Acts s (execFrameGapTimeout s)
  unfold execFrameGapTimeout
  split
  · exact .same (.refl s)
  · exact .same ⟨rfl, rfl, id, id⟩

/-- Every command answers with an act. -/
theorem exec_acts (c : Instr) (s : State) : Acts s (exec c s) := by
  cases c with
  | frameReceived check => exact .frameReceived s check
  | frameGapTimeout => exact .frameGapTimeout s
  | linkBreak => exact .linkBreak s
  | powerOnReset rate1 rate0 => exact .act (.blank _ (s.poweredOn_blank rate1 rate0) (.inr rfl) rfl)
  | unknownKind => exact RuleActs.serveWhere (fun _ _ hw => refuse_acts hw _) s _
  | ping => exact RuleActs.ping.serve s _
  | reset => exact (RuleActs.resetRequest.fixedLength 1).serve s _
  | engineReset => exact .engineReset s
  | fullReset => exact .fullReset s
  | ack => exact (RuleActs.ackRequest.fixedLength 1).serve s _
  | resync => exact (RuleActs.resync.fixedLength 0).serve s _
  | newPlane => exact (RuleActs.newPlane.fixedLength 6).serve s _
  | newPlaneFillEnd => exact .newPlaneFillEnd s
  | freePlane => exact (RuleActs.freePlane.fixedLength 1).serve s _
  | planeInfo => exact (RuleActs.planeInfo.fixedLength 1).serve s _
  | storeInfo => exact (RuleActs.storeInfo.fixedLength 0).serve s _
  | setPattern => exact (RuleActs.setPattern.fixedLength 17).serve s _
  | getPattern => exact (RuleActs.getPattern.fixedLength 1).serve s _
  | submit => exact RuleActs.submit.serve s _
  | cancel => exact (RuleActs.cancel.fixedLength 2).serve s _
  | flush => exact (RuleActs.flush.fixedLength 0).serve s _
  | queueInfo => exact RuleActs.queueInfo.serve s _
  | data => exact RuleActs.dataRequest.serve s _
  | fillRowEnd => exact .fillRowEnd s
  | blockRowEnd => exact .blockRowEnd s
  | loadRowEnd => exact .loadRowEnd s
  | textRowEnd => exact .textRowEnd s
  | dataTimeout => exact .dataTimeout s
  | extentMove => exact .extentMove s
  | newFont => exact (RuleActs.newFont.fixedLength 5).serve s _
  | glyph => exact RuleActs.glyphRequest.serve s _
  | dropFont => exact (RuleActs.dropFontRequest.fixedLength 1).serve s _
  | fontInfo => exact (RuleActs.fontInfo.fixedLength 1).serve s _
  | configurePanel => exact (RuleActs.configurePanel.fixedLength 17).serve s _
  | releasePanel => exact (RuleActs.releasePanel.fixedLength 1).serve s _
  | clearFault => exact (RuleActs.clearFault.fixedLength 1).serve s _
  | panelInfo => exact (RuleActs.panelInfo.fixedLength 1).serve s _
  | query id => exact .query s id
  | window => exact .window s
  | pixels => exact .pixels s
  | update order => exact .update s order
  | abort order => exact .abort s order
  | busyLineFall p => exact .busyLineFall s p
  | busyTimerExpiry p => exact .busyTimerExpiry s p
  | holdOffTimerExpiry p => exact .holdOffTimerExpiry s p
  | replyFrameSent order => exact .replyFrameSent s order
  | noticeFrameSent => exact .noticeFrameSent s
  | retransmissionTimerExpiry => exact .retransmissionTimerExpiry s
  | byteReceived b good => exact .byteReceived s b good
  | busyLineRise p => exact .act (.lineRose p)

/-- A law that looks past the link and the notices, and that every act keeps, holds after every step. -/
theorem step_keeps {L : State → Prop} (same : ∀ {s t}, SameEngine s t → L s → L t)
    (pending : ∀ {s} p, L s → L { s with pending := p }) (act : ∀ {s u}, Act s u → L s → L u) {s t : State}
    (h : step s = .next t) (hs : L s) : L t := by
  unfold step at h
  split at h
  · cases h
    exact hs
  · next c rest _ =>
    obtain ⟨s', u, t', ht, before, done, after⟩ := exec_acts c { s with pending := rest }
    obtain rfl := Host.Outcome.next.inj (h.symm.trans ht)
    exact same after (act done (same before (pending rest hs)))

end Sys2Proof.Machine
end

section
/-! The queue of waiting commands, which is the model's own: no command touches it (O2). -/

namespace Sys2Proof.Machine

set_option Elab.async false

theorem SameEngine.pending {s t : State} (h : SameEngine s t) : t.pending = s.pending := by rw [h.1]

theorem EngineOnly.pending {s t : State} (h : EngineOnly s t) : t.pending = s.pending := h.keeps.2.2.2.2.2.2.2.2.2

theorem State.finishEngineReset_pending (s : State) : s.finishEngineReset.pending = s.pending := by
  have reset : EngineOnly s (allHandles.foldl State.resetPlane s) := by
    refine EngineOnly.foldl _ (fun t h => ?_) _ s
    unfold State.resetPlane
    split
    · exact .refl t
    · exact .setPlane t h _
    · exact .releasePlane t h
  unfold State.finishEngineReset
  generalize allHandles.foldl State.resetPlane s = t at reset
  exact reset.pending

theorem State.stopAtBoundary_pending (s : State) (j : Job) : (s.stopAtBoundary j).pending = s.pending := by
  unfold State.stopAtBoundary
  split
  · exact ((EngineOnly.stopHead s j).trans (.examine _)).pending
  · exact (EngineOnly.stopHead s j).pending
  · rw [State.finishEngineReset_pending, (EngineOnly.stopHeadForReset s j).pending]
  · rfl

theorem State.afterRow_pending (s : State) (j : Job) (height : Nat) (st : Status) (goesOn : State)
    (h : goesOn.pending = s.pending) : (s.afterRow j height st goesOn).pending = s.pending := by
  unfold State.afterRow
  split
  · exact s.stopAtBoundary_pending j
  · split
    · exact ((EngineOnly.endHead s j st).trans (.examine _)).pending
    · exact h

theorem RowDrawn.pending {s t goesOn : State} {j : Job} {height : Nat} (h : RowDrawn s j t height goesOn) :
    t.pending = s.pending ∧ goesOn.pending = s.pending := by
  cases h with
  | fill | block | text => exact ⟨rfl, rfl⟩
  | load =>
    refine ⟨rfl, ?_⟩
    unfold State.loadProceed
    split <;> rfl

theorem State.moveExtent_pending (s : State) (x : OwnedExtent) (t : Nat) : (s.moveExtent x t).pending = s.pending := by
  unfold State.moveExtent State.relocate
  split
  · rw [State.setPlane_pending]
    rfl
  · rfl

theorem State.extentMoved_pending (s : State) (j : Job) (x : OwnedExtent) (t : Nat) :
    (s.extentMoved j x t).pending = s.pending := by
  have moved : ((s.moveExtent x t).setHead j.nextRow).pending = s.pending := s.moveExtent_pending x t
  unfold State.extentMoved
  dsimp only
  split
  · rw [State.stopAtBoundary_pending, moved]
  · have proceeds := EngineOnly.packProceed ((s.moveExtent x t).setHead j.nextRow) j.nextRow
    split
    · rw [(proceeds.trans (.examine _)).pending, moved]
    · rw [proceeds.pending, moved]

theorem State.beginEngineReset_pending (s : State) : s.beginEngineReset.pending = s.pending := by
  have flushed : (s.flushWaiting true).pending = s.pending := (EngineOnly.depart s _ _ _).pending
  unfold State.beginEngineReset
  dsimp only
  split
  · rw [State.finishEngineReset_pending, flushed]
  · next j _ _ =>
    split
    · rw [State.finishEngineReset_pending, (EngineOnly.stopHeadForReset _ j).pending, flushed]
    · exact flushed

theorem State.queryResult_pending (s : State) (q : PanelRequest) (id : Byte) :
    (s.queryResult q id).pending = s.pending := by
  unfold State.queryResult State.configure State.bind
  split
  · rw [State.answer_pending, State.setPort_pending, State.setPlane_pending, State.unbind_eq, State.setPlane_pending]
  · rfl

theorem EngineOnly.endAbandoned (s : State) (p : Port) : EngineOnly s (s.endAbandoned p) := by
  unfold State.endAbandoned
  dsimp only
  split
  · exact ((PortsOnly.setPort s p _).trans (.claimBus _ p)).engine
  · exact (PortsOnly.setPort s p _).engine

theorem EngineOnly.completeRefresh (s : State) (p : Port) (set : RefreshSet) :
    EngineOnly s (s.completeRefresh p set) := by
  have pushed : EngineOnly s ((s.setPort p ((s.port p).completed set)).pushNotice (refreshEnd p (s.port p) set)) :=
    (PortsOnly.setPort s p _).engine.trans (.pushNotice _ _)
  unfold State.completeRefresh
  dsimp only
  split
  · exact pushed.trans (PortsOnly.claimBus _ p).engine
  · exact pushed

theorem EngineOnly.lineFallen (s : State) (p : Port) : EngineOnly s (s.lineFallen p) := by
  unfold State.lineFallen
  split
  · exact .completeRefresh s p _
  · exact .endAbandoned s p
  · exact ((PortsOnly.setPort s p _).trans (.claimBus _ p)).engine
  · exact .refl s

theorem EngineOnly.busyExpired (s : State) (p : Port) : EngineOnly s (s.busyExpired p) := by
  unfold State.busyExpired State.enterFault
  split
  · exact (PortsOnly.setPort s p _).engine.trans (.pushNotice _ _)
  · exact .endAbandoned s p
  · exact (PortsOnly.setPort s p _).engine.trans (.pushNotice _ _)
  · exact .refl s

theorem PortsOnly.holdOffExpired (s : State) (p : Port) : PortsOnly s (s.holdOffExpired p) := by
  unfold State.holdOffExpired
  repeat' split
  · exact .refl s
  · exact .claimBus s p
  · exact .refl s
  · exact .refl s
  · exact .setPort s p _
  · exact .setPort s p _
  · exact .refl s

theorem State.afterStaging_pending (s : State) : s.afterStaging.pending = s.pending := by
  unfold State.afterStaging
  repeat' split
  all_goals rfl

theorem State.accept_pending (s : State) (b : JobBody) (report : Bool) : (s.accept b report).pending = s.pending := by
  have raised : EngineOnly s (b.planes.foldl State.raiseRef s) := EngineOnly.foldl _ (fun t h => .setPlane t h _) _ s
  exact raised.pending

/-- No act touches the queue of waiting commands. -/
theorem Act.pending {s u : State} (h : Act s u) : u.pending = s.pending := by
  cases h with
  | blank _ _ _ hp => exact hp
  | idle | work | patterns | fontMade | glyphAppended | fontDropped | fullReset => rfl
  | planeMade h => exact State.setPlane_pending _ _ _
  | fillEnded h v =>
    unfold State.endFill
    exact (EngineOnly.retryPack _).pending
  | planeFreed h => exact (EngineOnly.releasePlane s h).pending
  | planeRetired h => exact State.setPlane_pending _ _ _
  | submitted b report =>
    split
    · rw [(EngineOnly.examine _).pending, State.accept_pending]
    · exact s.accept_pending b report
  | waitingRemoved n j => exact (EngineOnly.removeWaiting s j).pending
  | runningStopped n j => exact ((EngineOnly.stopHead s j).trans (.examine _)).pending
  | flushed => exact (EngineOnly.depart s _ _ _).pending
  | flushStopped j => exact ((EngineOnly.depart s _ _ _).trans (.stopHead _ j)).pending
  | flushWaits => exact (EngineOnly.depart s s.flushedJobs s.keptHead false).pending
  | staged j bytes => exact State.afterStaging_pending _
  | rowEnded j rest t goesOn height st hj ha hd =>
    rw [State.afterRow_pending _ _ _ _ _ (hd.pending.2.trans hd.pending.1.symm), hd.pending.1]
  | timedOut j => exact ((EngineOnly.endHead s j _).trans (.examine _)).pending
  | extentMoved j rest x t => exact s.extentMoved_pending j x t
  | engineReset => exact s.beginEngineReset_pending
  | queryClaimed q => exact (PortsOnly.arbitrate _).engine.pending
  | queried q id => rw [(PortsOnly.giveBack _).engine.pending, State.queryResult_pending]
  | portReleased p => rw [State.setPort_pending, State.unbind_eq, State.setPlane_pending]
  | faultCleared p => exact State.setPort_pending s p _
  | transaction p => exact State.setPort_pending s p _
  | updated p set mark order => exact (EngineOnly.portThenStreaming s p _ order).pending
  | aborted p set mark order => exact (EngineOnly.portThenStreaming s p _ order).pending
  | lineRose p => exact State.setBusyLine_pending s p _
  | lineFell p => rw [(EngineOnly.lineFallen _ p).pending, State.setBusyLine_pending]
  | busyExpired p => exact (EngineOnly.busyExpired s p).pending
  | holdOffExpired p => rw [(PortsOnly.holdOffExpired _ p).engine.pending, State.setPort_pending]

/-- Settles O2, from the inversion of `exec`: every command answers with an act, and no act touches the queue. -/
theorem everyCommandAnswersAndKeepsTheQueue : Obligations.EveryCommandAnswersAndKeepsTheQueue := by
  unfold Obligations.EveryCommandAnswersAndKeepsTheQueue
  intro c s
  obtain ⟨s', u, t, ht, before, done, after⟩ := exec_acts c s
  exact ⟨t, ht, after.pending.trans (done.pending.trans before.pending)⟩

end Sys2Proof.Machine
end

section
/-! The merging rule of the damage list (O48). -/

namespace Sys2Proof.Machine

set_option Elab.async false

/-! ## The first element that satisfies a test -/

theorem extractFirst_eq_none {α : Type} {t : α → Bool} {l : List α} :
    extractFirst t l = none ↔ ∀ a ∈ l, t a = false := by
  induction l with
  | nil => simp [extractFirst]
  | cons a l ih => cases h : t a <;> simp [extractFirst, h, ih]

theorem extractFirst_append {α : Type} {t : α → Bool} {front back : List α} {a : α} (hf : ∀ b ∈ front, t b = false)
    (ha : t a = true) : extractFirst t (front ++ a :: back) = some (a, front ++ back) := by
  induction front with
  | nil => simp [extractFirst, ha]
  | cons b front ih =>
    have hb : t b = false := hf b List.mem_cons_self
    simp [extractFirst, hb, ih fun c hc => hf c (List.mem_cons_of_mem _ hc)]

theorem extractFirst_eq_some {α : Type} {t : α → Bool} {l : List α} {r : α × List α} (h : extractFirst t l = some r) :
    ∃ front back, l = front ++ r.1 :: back ∧ r.2 = front ++ back ∧ t r.1 = true := by
  induction l generalizing r with
  | nil => cases h
  | cons a l ih =>
    cases ha : t a with
    | true =>
      simp only [extractFirst, ha, if_true, Option.some.injEq] at h
      subst h
      exact ⟨[], l, rfl, rfl, ha⟩
    | false =>
      simp only [extractFirst, ha, Bool.false_eq_true, if_false, Option.map_eq_some_iff] at h
      obtain ⟨q, hq, rfl⟩ := h
      obtain ⟨front, back, rfl, hr, ht⟩ := ih hq
      exact ⟨a :: front, back, rfl, congrArg (a :: ·) hr, ht⟩

/-! ## Rectangles -/

theorem overlaps_comm (r t : Rect) : overlaps r t = overlaps t r := by
  rw [Bool.eq_iff_iff]
  simp only [overlaps, Bool.and_eq_true, decide_eq_true_eq]
  omega

/-- Whether a pixel lies in a rectangle. -/
def rectCovers (r : Rect) (x y : Nat) : Prop := r.x ≤ x ∧ x < r.x + r.w ∧ r.y ≤ y ∧ y < r.y + r.h

theorem rectCovers_boundingBox {r t : Rect} {x y : Nat} (h : rectCovers r x y ∨ rectCovers t x y) :
    rectCovers (boundingBox r t) x y := by
  simp only [rectCovers, boundingBox] at *
  omega

theorem insideArea_iff {r : Rect} {width height : Nat} :
    insideArea r width height = true ↔ r.x + r.w ≤ width ∧ r.y + r.h ≤ height := by
  simp only [insideArea, Bool.and_eq_true, decide_eq_true_eq]

theorem insideArea_boundingBox {r t : Rect} {width height : Nat} (hr : insideArea r width height = true)
    (ht : insideArea t width height = true) : insideArea (boundingBox r t) width height = true := by
  rw [insideArea_iff] at *
  simp only [boundingBox]
  omega

/-! ## The entry that grows least -/

theorem leastGrowth_le {r e : Rect} {l : List Rect} (he : e ∈ l) : leastGrowth r l ≤ growth r e := by
  induction l with
  | nil => cases he
  | cons a l ih =>
    cases l with
    | nil =>
      obtain rfl := List.mem_singleton.mp he
      exact Nat.le_refl _
    | cons b l =>
      obtain rfl | hb := List.mem_cons.mp he
      · exact Nat.min_le_left _ _
      · exact (Nat.min_le_right _ _).trans (ih hb)

theorem leastGrowth_mem {r : Rect} {l : List Rect} (hl : l ≠ []) : ∃ e ∈ l, growth r e = leastGrowth r l := by
  induction l with
  | nil => exact absurd rfl hl
  | cons a l ih =>
    cases l with
    | nil => exact ⟨a, List.mem_singleton_self a, rfl⟩
    | cons b l =>
      obtain ⟨e, he, hg⟩ := ih (List.cons_ne_nil b l)
      obtain h | h := Nat.le_total (growth r a) (leastGrowth r (b :: l))
      · exact ⟨a, List.mem_cons_self, (Nat.min_eq_left h).symm⟩
      · exact ⟨e, List.mem_cons_of_mem _ he, hg.trans (Nat.min_eq_right h).symm⟩

theorem leastGrowth_eq {r e : Rect} {l : List Rect} (he : e ∈ l) (least : ∀ f ∈ l, growth r e ≤ growth r f) :
    leastGrowth r l = growth r e := by
  obtain ⟨f, hf, hg⟩ := leastGrowth_mem (r := r) (List.ne_nil_of_mem he)
  exact Nat.le_antisymm (leastGrowth_le he) (hg ▸ least f hf)

/-! ## The parts of the rule -/

section Parts

variable {width height turns : Nat} {list : List Rect} {r : Rect}

theorem mergeInto_whole (h : r = ⟨0, 0, width, height⟩) : mergeInto width height (turns + 1) list r = wholeDamage := by
  rw [mergeInto, if_pos h]

theorem mergeInto_overlapping {front back : List Rect} {e : Rect} (h : ¬ r = ⟨0, 0, width, height⟩)
    (he : overlaps r e = true) (hf : ∀ f ∈ front, overlaps r f = false) :
    mergeInto width height (turns + 1) (front ++ e :: back) r =
      mergeInto width height turns (front ++ back) (boundingBox r e) := by
  rw [mergeInto, if_neg h, extractFirst_append hf he]

theorem mergeInto_append (h : ¬ r = ⟨0, 0, width, height⟩) (apart : ∀ e ∈ list, overlaps r e = false)
    (room : list.length < 8) :
    mergeInto width height (turns + 1) list r = { list := list ++ [r], whole := false } := by
  rw [mergeInto, if_neg h, extractFirst_eq_none.mpr apart]
  exact if_pos room

theorem mergeInto_full {front back : List Rect} {e : Rect} (h : ¬ r = ⟨0, 0, width, height⟩)
    (apart : ∀ f ∈ front ++ e :: back, overlaps r f = false) (full : 8 ≤ (front ++ e :: back).length)
    (hf : ∀ f ∈ front, growth r e < growth r f) (hb : ∀ f ∈ back, growth r e ≤ growth r f) :
    mergeInto width height (turns + 1) (front ++ e :: back) r =
      mergeInto width height turns (front ++ back) (boundingBox r e) := by
  have least : leastGrowth r (front ++ e :: back) = growth r e := by
    refine leastGrowth_eq (List.mem_append_right _ List.mem_cons_self) fun f hm => ?_
    obtain hm | hm := List.mem_append.mp hm
    · exact (hf f hm).le
    · obtain rfl | hm := List.mem_cons.mp hm
      · exact Nat.le_refl _
      · exact hb f hm
  have found : extractFirst (fun f => growth r f == leastGrowth r (front ++ e :: back)) (front ++ e :: back) =
      some (e, front ++ back) := by
    refine extractFirst_append (fun f hm => ?_) ?_
    · rw [least]
      exact beq_false_of_ne (hf f hm).ne'
    · rw [least]
      exact beq_self_eq_true _
  rw [mergeInto, if_neg h, extractFirst_eq_none.mpr apart]
  refine (if_neg (Nat.not_lt.mpr full)).trans ?_
  rw [found]

end Parts

/-! ## The law of the damage list -/

/-- The law of a damage list with its whole flag (R113). -/
structure DamageLaw (width height : Nat) (d : Damage) : Prop where
  count : d.list.length ≤ 8
  inside : ∀ t ∈ d.list, insideArea t width height = true
  apart : d.list.Pairwise (fun t u => overlaps t u = false)
  whole : d.whole = true → d.list = []

/-- Whether a pixel is damaged. -/
def Damage.covers (d : Damage) (x y : Nat) : Prop := d.whole = true ∨ ∃ e ∈ d.list, rectCovers e x y

theorem wholeDamage_law (width height : Nat) : DamageLaw width height wholeDamage :=
  ⟨Nat.zero_le _, fun _ h => (List.not_mem_nil h).elim, .nil, fun _ => rfl⟩

/-- What one turn takes away of a list that keeps the law. -/
theorem listLaw_erase {width height : Nat} {front back : List Rect} {e : Rect}
    (h : DamageLaw width height ⟨front ++ e :: back, false⟩) :
    DamageLaw width height ⟨front ++ back, false⟩ ∧ insideArea e width height = true := by
  obtain ⟨count, inside, apart, -⟩ := h
  have sub : (front ++ back).Sublist (front ++ e :: back) := (List.sublist_cons_self e back).append_left front
  refine ⟨⟨sub.length_le.trans count, fun t ht => inside t (sub.subset ht), apart.sublist sub, nofun⟩, ?_⟩
  exact inside e (List.mem_append_right _ List.mem_cons_self)

theorem mergeInto_law {width height turns : Nat} {list : List Rect} {r : Rect} (ht : list.length < turns)
    (h : DamageLaw width height ⟨list, false⟩) (hr : insideArea r width height = true) :
    DamageLaw width height (mergeInto width height turns list r) ∧
      ∀ x y, rectCovers r x y ∨ (∃ e ∈ list, rectCovers e x y) → (mergeInto width height turns list r).covers x y := by
  induction turns generalizing list r with
  | zero => omega
  | succ turns ih =>
    by_cases hw : r = ⟨0, 0, width, height⟩
    · rw [mergeInto_whole hw]
      exact ⟨wholeDamage_law _ _, fun _ _ _ => .inl rfl⟩
    -- The turn that replaces the rectangle: what held before holds of the bounding box and the entries left.
    have taken (front : List Rect) (e : Rect) (back : List Rect) (hl : list = front ++ e :: back) :
        DamageLaw width height (mergeInto width height turns (front ++ back) (boundingBox r e)) ∧
          ∀ x y, rectCovers r x y ∨ (∃ e ∈ list, rectCovers e x y) →
            (mergeInto width height turns (front ++ back) (boundingBox r e)).covers x y := by
      subst hl
      obtain ⟨left, inside⟩ := listLaw_erase h
      have shorter : (front ++ back).length < turns := by
        simp only [List.length_append, List.length_cons] at ht ⊢
        omega
      obtain ⟨law, covered⟩ := ih shorter left (insideArea_boundingBox hr inside)
      refine ⟨law, fun x y hc => covered x y ?_⟩
      obtain hc | ⟨f, hf, hc⟩ := hc
      · exact .inl (rectCovers_boundingBox (.inl hc))
      · obtain hf | hf := List.mem_append.mp hf
        · exact .inr ⟨f, List.mem_append_left _ hf, hc⟩
        · obtain rfl | hf := List.mem_cons.mp hf
          · exact .inl (rectCovers_boundingBox (.inr hc))
          · exact .inr ⟨f, List.mem_append_right _ hf, hc⟩
    rw [mergeInto, if_neg hw]
    split
    · next e rest found =>
      obtain ⟨front, back, hl, hrest, -⟩ := extractFirst_eq_some found
      simp only at hl hrest
      rw [hrest]
      exact taken front e back hl
    · next none =>
      have apart := extractFirst_eq_none.mp none
      split
      · next room =>
        obtain ⟨-, inside, pairs, -⟩ := h
        refine ⟨⟨?_, ?_, ?_, nofun⟩, ?_⟩
        · rw [List.length_append]
          exact room
        · intro t hm
          obtain hm | hm := List.mem_append.mp hm
          · exact inside t hm
          · exact List.mem_singleton.mp hm ▸ hr
        · refine List.pairwise_append.mpr ⟨pairs, List.pairwise_singleton _ _, fun t hm u hu => ?_⟩
          rw [List.mem_singleton.mp hu, overlaps_comm]
          exact apart t hm
        · rintro x y (hc | ⟨e, he, hc⟩)
          · exact .inr ⟨r, List.mem_append_right _ (List.mem_singleton_self r), hc⟩
          · exact .inr ⟨e, List.mem_append_left _ he, hc⟩
      · next full =>
        have nonempty : list ≠ [] := by
          rintro rfl
          exact full (by decide)
        obtain ⟨f, hf, hg⟩ := leastGrowth_mem (r := r) nonempty
        split
        · next e rest found =>
          obtain ⟨front, back, hl, hrest, -⟩ := extractFirst_eq_some found
          simp only at hl hrest
          rw [hrest]
          exact taken front e back hl
        · next absent =>
          have := extractFirst_eq_none.mp absent f hf
          rw [hg, beq_self_eq_true] at this
          cases this

theorem mergeDamage_law {width height : Nat} {d : Damage} {r : Rect} (h : DamageLaw width height d)
    (hr : insideArea r width height = true) : DamageLaw width height (mergeDamage width height d r) := by
  obtain ⟨list, whole⟩ := d
  cases whole with
  | true => exact h
  | false => exact (mergeInto_law (Nat.lt_succ_self _) h hr).1

/-! ## The damage of a port -/

theorem PortRec.timesDamage_iff {r : PortRec} :
    r.timesDamage = true ↔ r.mode = .auto ∧ ¬ r.state = .unconfigured ∧ ∀ c, ¬ r.state = .fault c := by
  unfold PortRec.timesDamage
  cases r.state <;> simp

theorem PortRec.restarts_iff {r u : PortRec} :
    (r.timesDamage = true ∧ ¬ u.damageOf = r.damageOf) ↔
      r.mode = .auto ∧ ¬ r.state = .unconfigured ∧ (∀ c, ¬ r.state = .fault c) ∧
        ¬ (u.damage = r.damage ∧ u.whole = r.whole) := by
  have damaged : u.damageOf = r.damageOf ↔ u.damage = r.damage ∧ u.whole = r.whole := Damage.mk.injEq .. ▸ Iff.rfl
  rw [PortRec.timesDamage_iff, damaged, and_assoc, and_assoc]

theorem PortRec.addPlaneDamage_outside {r : PortRec} {t : Rect}
    (h : overlaps t ⟨r.ox, r.oy, r.width, r.height⟩ = false) : r.addPlaneDamage t = r := by
  unfold PortRec.addPlaneDamage intersection
  rw [h]
  rfl

/-- The part of a rectangle of the bound plane that lies in the window, in window coordinates (R114). -/
def PortRec.windowPart (r : PortRec) (t : Rect) : Rect :=
  ⟨max t.x r.ox - r.ox, max t.y r.oy - r.oy, min (t.x + t.w) (r.ox + r.width) - max t.x r.ox,
    min (t.y + t.h) (r.oy + r.height) - max t.y r.oy⟩

theorem PortRec.addPlaneDamage_inside {r : PortRec} {t : Rect}
    (h : overlaps t ⟨r.ox, r.oy, r.width, r.height⟩ = true) :
    r.addPlaneDamage t = r.addWindowDamage (r.windowPart t) := by
  unfold PortRec.addPlaneDamage intersection
  rw [h]
  rfl

theorem PortRec.windowPart_inside {r : PortRec} {t : Rect}
    (h : overlaps t ⟨r.ox, r.oy, r.width, r.height⟩ = true) :
    insideArea (r.windowPart t) r.width r.height = true := by
  simp only [overlaps, Bool.and_eq_true, decide_eq_true_eq] at h
  rw [insideArea_iff]
  simp only [PortRec.windowPart]
  omega

/-- Settles O48: the rule's parts are the branches of `mergeInto`, its law an induction over its turns. -/
theorem mergingCoversTheDamage : Obligations.MergingCoversTheDamage := by
  unfold Obligations.MergingCoversTheDamage
  refine ⟨fun width height list r => ⟨rfl, mergeInto_whole, fun hw => ⟨?_, mergeInto_append hw, ?_⟩, ?_⟩,
    fun u t => ⟨PortRec.addPlaneDamage_outside, fun meets timed => ?_, fun meets untimed => ?_⟩⟩
  · rintro front e back rfl he hf
    show mergeInto width height (front ++ e :: back).length.succ _ r = mergeInto width height _ _ _
    rw [mergeInto_overlapping hw he hf, List.length_append, List.length_append]
    rfl
  · rintro front e back rfl apart full hf hb
    show mergeInto width height (front ++ e :: back).length.succ _ r = mergeInto width height _ _ _
    rw [mergeInto_full hw apart full hf hb, List.length_append, List.length_append]
    rfl
  · intro count inside apart hr
    obtain ⟨⟨count', inside', apart', whole'⟩, covered⟩ :=
      mergeInto_law (Nat.lt_succ_self list.length) ⟨count, inside, apart, nofun⟩ hr
    refine ⟨count', inside', apart', whole', fun clear x y hc => ?_⟩
    obtain whole | found := covered x y (hc.elim .inr fun ⟨e, he, hc⟩ => .inl (List.mem_singleton.mp he ▸ hc))
    · exact Bool.noConfusion (clear.symm.trans whole)
    · exact found
  · rw [PortRec.addPlaneDamage_inside meets, PortRec.addWindowDamage, holdOffAfter]
    exact congrArg (fun timer => ({ u.merge (u.windowPart t) with holdOffTimer := timer } : PortRec))
      (if_pos (PortRec.restarts_iff.mpr timed))
  · rw [PortRec.addPlaneDamage_inside meets, PortRec.addWindowDamage, holdOffAfter]
    exact congrArg (fun timer => ({ u.merge (u.windowPart t) with holdOffTimer := timer } : PortRec))
      (if_neg fun restarts => untimed (PortRec.restarts_iff.mp restarts))

end Sys2Proof.Machine
end

section
/-! The moves that the acts of the part are made of. The laws of the store, of the ports, of the bus and of the holds are
each kept by every move. -/

namespace Sys2Proof.Machine

set_option Elab.async false

/-! ## Changes of a port's record -/

/-- The window of a port and its plane are the same. -/
def SameWindow (r u : PortRec) : Prop :=
  u.boundPlane = r.boundPlane ∧ u.width = r.width ∧ u.height = r.height ∧ u.depth = r.depth ∧ u.ox = r.ox ∧ u.oy = r.oy

/-- A change of a port's record with no new claim on the bus, that leaves its read holds. -/
structure PortStep (r u : PortRec) : Prop where
  window : SameWindow r u
  holds : u.readHolds = r.readHolds
  streams : u.isStreaming = r.isStreaming
  claim : u.state = .pending .bus → r.state = .pending .bus
  unconfigured : r = unconfiguredPort → u = r
  configured : ¬ r.state = .unconfigured → ¬ u.state = .unconfigured
  law : PortLaw r → PortLaw u

/-- A configured port that is not STREAMING enters the bus wait. -/
structure PortClaim (r u : PortRec) : Prop where
  window : SameWindow r u
  still : r.isStreaming = false
  configured : ¬ r.state = .unconfigured
  claims : u.state = .pending .bus
  law : PortLaw r → PortLaw u

/-- The work in hand neither waits for the bus nor withdraws the claims on it. -/
def LeavesBus (w : Option Work) : Prop := (∀ q, ¬ w = some (.query q)) ∧ ¬ w = some .fullWaiting

/-- A plane that may be released: a RETIRING one, one whose release is due, or a LIVE one that no port is bound to, by a
handler that has no work in hand. -/
def State.Releasable (s : State) (h : Nat) : Prop :=
  (s.plane h).state = .retiring ∨ (s.plane h).releaseDue = true ∨
    (s.plane h).state = .live ∧ ¬ ((s.plane h).boundA = true ∨ (s.plane h).boundB = true) ∧ s.link.work = none

/-- One move. -/
inductive Move (s : State) : State → Prop
  | rest (t : State)
    (h : t = { s with
      mem := t.mem, patterns := t.patterns, jobs := t.jobs, jobCounter := t.jobCounter, staging := t.staging
      dataTimer := t.dataTimer, busyLineA := t.busyLineA, busyLineB := t.busyLineB, powerOns := t.powerOns
      pending := t.pending }) : Move s t
  | push (c : NoticeContent) : Move s (s.pushNotice c)
  | refCount (h n : Nat) (hn : (s.plane h).state = .free → n ≤ (s.plane h).refCount) :
    Move s (s.setPlane h { s.plane h with refCount := n })
  | due (h : Nat) (hr : (s.plane h).state = .retiring) : Move s (s.setPlane h { s.plane h with releaseDue := true })
  | retire (h : Nat) (hs : (s.plane h).state = .live)
    (hb : ¬ ((s.plane h).boundA = true ∨ (s.plane h).boundB = true)) (hw : s.link.work = none) :
    Move s (s.setPlane h { s.plane h with state := .retiring })
  | release (h : Nat) (hr : s.Releasable h) : Move s (s.releasePlane h)
  | port (p : Port) (u : PortRec) (hu : PortStep (s.port p) u) : Move s (s.setPort p u)
  | claim (p : Port) (u : PortRec) (hu : PortClaim (s.port p) u) : Move s (s.setPort p u).arbitrate
  | wake (w : Wait) (hw : w = .lock ∨ w = .hold) : Move s (s.wakePorts w)
  | unlock : Move s { s with layoutLock := false }
  | lock (hs : s.anyStreaming = false) : Move s { s with layoutLock := true }
  | freeHold : Move s { s with writeHold := none }
  | takeHold (h : Nat) (t : Rect) (hr : s.readHeld h t = false) :
    Move s { s with writeHold := some { plane := h, rect := t } }
  | link (l : Link) (before : LeavesBus s.link.work) (after : ∀ q, ¬ l.work = some (.query q)) :
    Move s { s with link := l }
  | font (i : Nat) (f : Font) (glyphs : List Glyph) (hi : i ≤ 3) (hs : f.state = (s.font i).state)
    (he : f.extent = (s.font i).extent) : Move s { s.setFont i f with glyphs := glyphs }

/-- Any number of moves. -/
def Moves (s t : State) : Prop := Relation.ReflTransGen Move s t

theorem Move.moves {s t : State} (h : Move s t) : Moves s t := Relation.ReflTransGen.single h

theorem Moves.refl (s : State) : Moves s s := Relation.ReflTransGen.refl

theorem Moves.trans {s t u : State} (h : Moves s t) (k : Moves t u) : Moves s u := Relation.ReflTransGen.trans h k

theorem Moves.tail {s t u : State} (h : Moves s t) (k : Move t u) : Moves s u := Relation.ReflTransGen.tail h k

theorem Moves.keeps {L : State → Prop} (each : ∀ {s t}, Move s t → L s → L t) {s t : State} (h : Moves s t) (hs : L s) :
    L t := by
  induction h with
  | refl => exact hs
  | tail _ move ih => exact each move ih

theorem Moves.foldl {α : Type} {f : State → α → State} (hf : ∀ s a, Moves s (f s a)) (l : List α) (s : State) :
    Moves s (l.foldl f s) := by
  induction l generalizing s with
  | nil => exact .refl s
  | cons a l ih => exact (hf s a).trans (ih _)

/-! ## Port records -/

theorem SameWindow.refl (r : PortRec) : SameWindow r r := ⟨rfl, rfl, rfl, rfl, rfl, rfl⟩

/-- The laws of a port's damage are those of its damage list. -/
theorem PortLaw.damageLaw {r : PortRec} (h : PortLaw r) : DamageLaw r.width r.height r.damageOf := by
  obtain ⟨-, -, -, count, inside, apart, whole, -⟩ := h
  exact ⟨count, inside, apart, whole⟩

/-- A port that keeps its laws keeps them with other damage in its window. -/
theorem PortLaw.withDamage {r : PortRec} {d : Damage} (h : PortLaw r) (hr : ¬ r.state = .unconfigured)
    (hd : DamageLaw r.width r.height d) : PortLaw { r with damage := d.list, whole := d.whole } := by
  obtain ⟨-, ghost, width, -, -, -, -, set, manual, fault, busy⟩ := h
  obtain ⟨count, inside, apart, whole⟩ := hd
  exact ⟨fun he => absurd he hr, ghost, width, count, inside, apart, whole, set, manual, fault, busy⟩

theorem PortLaw.merge {r : PortRec} {t : Rect} (h : PortLaw r) (hr : ¬ r.state = .unconfigured)
    (ht : insideArea t r.width r.height = true) : PortLaw (r.merge t) :=
  h.withDamage hr (mergeDamage_law h.damageLaw ht)

theorem PortLaw.addWindowDamage {r : PortRec} {t : Rect} (h : PortLaw r) (hr : ¬ r.state = .unconfigured)
    (ht : insideArea t r.width r.height = true) : PortLaw (r.addWindowDamage t) := by
  obtain ⟨unconf, ghost, width, count, inside, apart, whole, set, manual, fault, busy⟩ := h.merge hr ht
  have untimed (hn : ¬ r.timesDamage = true) : holdOffAfter r (r.merge t) = r.holdOffTimer :=
    if_neg fun hc => hn hc.1
  refine ⟨fun he => absurd he hr, ghost, width, count, inside, apart, whole, set, fun hm => ?_, fun c hc => ?_, busy⟩
  · refine (untimed ?_).trans (manual hm)
    rw [PortRec.timesDamage_iff]
    rintro ⟨auto, -, -⟩
    exact PortMode.noConfusion (auto.symm.trans hm)
  · refine (untimed ?_).trans (fault c hc)
    rw [PortRec.timesDamage_iff]
    exact fun ⟨_, _, notFault⟩ => notFault c hc

theorem PortRec.addPlaneDamage_state (r : PortRec) (t : Rect) :
    (r.addPlaneDamage t).state = r.state ∧ SameWindow r (r.addPlaneDamage t) := by
  unfold PortRec.addPlaneDamage
  split
  · exact ⟨rfl, .refl r⟩
  · exact ⟨rfl, .refl r⟩

theorem PortLaw.addPlaneDamage {r : PortRec} {t : Rect} (h : PortLaw r) (hr : ¬ r.state = .unconfigured) :
    PortLaw (r.addPlaneDamage t) := by
  cases meets : overlaps t ⟨r.ox, r.oy, r.width, r.height⟩ with
  | false => exact (PortRec.addPlaneDamage_outside meets).symm ▸ h
  | true =>
    rw [PortRec.addPlaneDamage_inside meets]
    exact h.addWindowDamage hr (PortRec.windowPart_inside meets)

/-- A rectangle outside a window of no pixels. -/
theorem PortRec.addPlaneDamage_unconfigured (t : Rect) :
    unconfiguredPort.addPlaneDamage t = unconfiguredPort := by
  refine PortRec.addPlaneDamage_outside ?_
  simp [overlaps, unconfiguredPort]

end Sys2Proof.Machine
end

section
/-! What the events of a port do to its record. -/

namespace Sys2Proof.Machine

set_option Elab.async false

/-! ## Changes that leave the state -/

theorem PortRec.isStreaming_eq_false {r : PortRec} (h : ∀ set cmd mark, ¬ r.state = .streaming set cmd mark) :
    r.isStreaming = false := by
  unfold PortRec.isStreaming
  split
  · next hs => exact absurd hs (h _ _ _)
  · rfl

theorem PortRec.isStreaming_streaming {r : PortRec} {set : RefreshSet} {cmd : StreamCommand} {mark : Bool}
    (h : r.state = .streaming set cmd mark) : r.isStreaming = true := by
  unfold PortRec.isStreaming
  rw [h]

theorem PortRec.readHolds_of_still {r : PortRec} (h : r.isStreaming = false) : r.readHolds = [] := by
  unfold PortRec.readHolds
  split
  · next hs => exact Bool.noConfusion (h.symm.trans (PortRec.isStreaming_streaming hs))
  · rfl

theorem PortRec.readHolds_streaming {r : PortRec} {set : RefreshSet} {cmd : StreamCommand} {mark : Bool}
    (h : r.state = .streaming set cmd mark) : r.readHolds = set.rects.map r.toPlane := by
  unfold PortRec.readHolds
  rw [h]

theorem PortRec.isStreaming_congr {r u : PortRec} (h : u.state = r.state) : u.isStreaming = r.isStreaming := by
  unfold PortRec.isStreaming
  rw [h]

/-- The read holds are the refresh set's rectangles, moved to the window. -/
theorem PortRec.readHolds_congr {r u : PortRec} (h : u.state = r.state) (w : SameWindow r u) :
    u.readHolds = r.readHolds := by
  obtain ⟨-, -, -, -, hx, hy⟩ := w
  unfold PortRec.readHolds PortRec.toPlane
  rw [h, hx, hy]

theorem PortStep.sameState {r u : PortRec} (hs : u.state = r.state) (w : SameWindow r u)
    (hu : r = unconfiguredPort → u = r) (law : PortLaw r → PortLaw u) : PortStep r u where
  window := w
  holds := PortRec.readHolds_congr hs w
  streams := PortRec.isStreaming_congr hs
  claim := fun h => hs.symm.trans h
  unconfigured := hu
  configured := fun h => hs.symm ▸ h
  law := law

/-- A change between two states of a configured port that are not STREAMING. -/
theorem PortStep.still {r u : PortRec} (w : SameWindow r u) (hr : r.isStreaming = false) (hu : u.isStreaming = false)
    (configured : ¬ r.state = .unconfigured) (configured' : ¬ u.state = .unconfigured)
    (claim : ¬ u.state = .pending .bus) (law : PortLaw r → PortLaw u) : PortStep r u where
  window := w
  holds := (PortRec.readHolds_of_still hu).trans (PortRec.readHolds_of_still hr).symm
  streams := hu.trans hr.symm
  claim := fun h => absurd h claim
  unconfigured := fun h => absurd (h ▸ rfl) configured
  configured := fun _ => configured'
  law := law

/-- A STREAMING port that goes on with the same set. -/
theorem PortStep.streaming {r u : PortRec} {set : RefreshSet} {cmd cmd' : StreamCommand} {mark mark' : Bool}
    (w : SameWindow r u) (hr : r.state = .streaming set cmd mark) (hu : u.state = .streaming set cmd' mark')
    (law : PortLaw r → PortLaw u) : PortStep r u where
  window := w
  holds := by
    obtain ⟨-, -, -, -, hx, hy⟩ := w
    rw [PortRec.readHolds_streaming hr, PortRec.readHolds_streaming hu]
    unfold PortRec.toPlane
    rw [hx, hy]
  streams := (PortRec.isStreaming_streaming hu).trans (PortRec.isStreaming_streaming hr).symm
  claim := fun h => PortState.noConfusion (hu.symm.trans h)
  unconfigured := fun h => PortState.noConfusion (hr.symm.trans (h ▸ rfl : r.state = .unconfigured))
  configured := fun _ h => PortState.noConfusion (hu.symm.trans h)
  law := law

theorem PortStep.addPlaneDamage (r : PortRec) (t : Rect) : PortStep r (r.addPlaneDamage t) := by
  have kept (h : r = unconfiguredPort) : r.addPlaneDamage t = r := by
    rw [h]
    exact PortRec.addPlaneDamage_unconfigured t
  refine .sameState (r.addPlaneDamage_state t).1 (r.addPlaneDamage_state t).2 kept fun law => ?_
  by_cases hr : r.state = .unconfigured
  · exact (kept (law.1 hr)).symm ▸ law
  · exact law.addPlaneDamage hr

/-- The force flag and the again flag are no part of the laws. -/
theorem PortStep.flags (r : PortRec) (force again : Bool) (hr : ¬ r.state = .unconfigured) :
    PortStep r { r with force := force, again := again } := by
  refine .sameState rfl (.refl r) (fun h => absurd (h ▸ rfl) hr) fun law => ?_
  obtain ⟨-, rest⟩ := law
  exact ⟨fun he => absurd he hr, rest⟩

/-! ## Claims -/

/-- A port that may claim enters the bus wait as it is. -/
theorem PortClaim.enter {r : PortRec} (still : r.isStreaming = false) (configured : ¬ r.state = .unconfigured)
    (untimed : r.state.timesBusy = false) (force again : Bool) :
    PortClaim r { r with force := force, again := again, state := .pending .bus } where
  window := .refl r
  still := still
  configured := configured
  claims := rfl
  law := by
    intro law
    obtain ⟨-, ghost, width, count, inside, apart, whole, -, manual, -, busy⟩ := law
    exact ⟨nofun, ghost, width, count, inside, apart, whole, nofun, manual, nofun, busy.trans untimed⟩

theorem Moves.claimBus {s : State} {p : Port} (still : (s.port p).isStreaming = false)
    (configured : ¬ (s.port p).state = .unconfigured) (untimed : (s.port p).state.timesBusy = false) :
    Moves s (s.claimBus p) :=
  (Move.claim p _ (.enter still configured untimed (s.port p).force (s.port p).again)).moves

/-- A record written and then a claim. -/
theorem State.setPort_claimBus (s : State) (p : Port) (u : PortRec) :
    (s.setPort p u).claimBus p = (s.setPort p { u with state := .pending .bus }).arbitrate := by
  unfold State.claimBus State.enterBusWait
  rw [State.setPort_setPort, State.port_setPort, if_pos rfl]

/-! ## The events of a port -/

section Events

variable {r : PortRec}

theorem PortRec.isStreaming_of_idle (h : r.state = .idle) : r.isStreaming = false :=
  PortRec.isStreaming_eq_false (by simp [h])

theorem PortRec.isStreaming_of_pending {w : Wait} (h : r.state = .pending w) : r.isStreaming = false :=
  PortRec.isStreaming_eq_false (by simp [h])

theorem PortRec.isStreaming_of_settling {set : RefreshSet} {mark : Bool} (h : r.state = .settling set mark) :
    r.isStreaming = false :=
  PortRec.isStreaming_eq_false (by simp [h])

theorem PortRec.isStreaming_of_fault {c : FaultCause} (h : r.state = .fault c) : r.isStreaming = false :=
  PortRec.isStreaming_eq_false (by simp [h])

theorem PortStep.completed {set : RefreshSet} (h : r.state = .settling set false) : PortStep r (r.completed set) := by
  refine .still (.refl r) (PortRec.isStreaming_of_settling h) rfl (by simp [h]) nofun nofun fun law => ?_
  obtain ⟨-, ghost, width, count, inside, apart, whole, sets, manual, -, -⟩ := law
  have below := (sets set false (by simp [h, PortState.refreshSet])).2
  have ghost' : ghostAfter set.waveform r.ghostCount ≤ r.ghostLimit := by
    cases hw : set.waveform with
    | partialWave => exact below hw rfl
    | fullWave => exact Nat.zero_le _
  exact ⟨nofun, ghost', width, count, inside, apart, whole, nofun, manual, nofun, rfl⟩

theorem PortRec.freshHoldOff_manual (h : r.mode = .manual) : r.freshHoldOff = .stopped := by
  unfold PortRec.freshHoldOff
  rw [h]

/-- A port that becomes IDLE with both of its timers set anew. -/
theorem PortLaw.idle {timer : Timer} {force again : Bool} (law : PortLaw r) (manual : r.mode = .manual → timer = .stopped) :
    PortLaw
      { r with state := .idle, force := force, again := again, holdOffTimer := timer, busyTimer := .stopped } := by
  obtain ⟨-, ghost, width, count, inside, apart, whole, -⟩ := law
  exact ⟨nofun, ghost, width, count, inside, apart, whole, nofun, manual, nofun, rfl⟩

theorem PortLaw.manual (law : PortLaw r) (h : r.mode = .manual) : r.holdOffTimer = .stopped := by
  obtain ⟨-, -, -, -, -, -, -, -, manual, -, -⟩ := law
  exact manual h

/-- The damage with a refresh set restored to it. -/
theorem PortRec.restore_law {rects : List Rect} {r : PortRec} (law : PortLaw r) (hr : ¬ r.state = .unconfigured)
    (inside : ∀ t ∈ rects, insideArea t r.width r.height = true) :
    PortLaw (rects.foldl PortRec.merge r) := by
  induction rects generalizing r with
  | nil => exact law
  | cons t rects ih =>
    exact ih (law.merge hr (inside t List.mem_cons_self)) hr fun u hu => inside u (List.mem_cons_of_mem _ hu)

theorem PortRec.restore_frame (rects : List Rect) (r : PortRec) :
    rects.foldl PortRec.merge r =
      { r with damage := (rects.foldl PortRec.merge r).damage, whole := (rects.foldl PortRec.merge r).whole } := by
  induction rects generalizing r with
  | nil => rfl
  | cons t rects ih => exact (ih (r.merge t)).trans rfl

theorem PortLaw.faulted {c : FaultCause} (law : PortLaw r) : PortLaw (r.faulted c) := by
  obtain ⟨-, ghost, width, count, inside, apart, whole, -⟩ := law
  exact ⟨nofun, ghost, width, count, inside, apart, whole, nofun, fun _ => rfl, fun _ _ => rfl, rfl⟩

theorem PortStep.stuck (h : r.state = .pending .busy) : PortStep r (r.faulted .busyStuck) :=
  .still (.refl r) (PortRec.isStreaming_of_pending h) rfl (by simp [h]) nofun nofun PortLaw.faulted

theorem PortStep.timedOut {set : RefreshSet} (h : r.state = .settling set false) :
    PortStep r ((r.restore set).faulted .busyTimeout) := by
  have window : SameWindow r ((r.restore set).faulted .busyTimeout) := by
    unfold PortRec.restore
    rw [PortRec.restore_frame]
    exact .refl r
  refine .still window (PortRec.isStreaming_of_settling h) rfl (by simp [h]) nofun nofun fun law => ?_
  have ⟨_, _, _, _, _, _, _, sets, _⟩ := law
  exact (PortRec.restore_law law (by simp [h]) (sets set false (by simp [h, PortState.refreshSet])).1).faulted

theorem PortStep.cleared {c : FaultCause} (h : r.state = .fault c) : PortStep r r.cleared := by
  refine .still (.refl r) (PortRec.isStreaming_of_fault h) rfl (by simp [h]) nofun nofun fun law => ?_
  obtain ⟨-, ghost, width, count, inside, apart, whole, -, -, -, busy⟩ := law
  refine ⟨nofun, ghost, width, count, inside, apart, whole, nofun, fun hm => if_neg ?_, nofun, busy.trans ?_⟩
  · rintro ⟨auto, -⟩
    exact PortMode.noConfusion (auto.symm.trans hm)
  · rw [h]
    rfl

/-- The hold-off timer of any port may stop. -/
theorem PortStep.holdOffStopped (r : PortRec) : PortStep r { r with holdOffTimer := .stopped } := by
  refine .sameState rfl (.refl r) ?_ fun law => ?_
  · rintro rfl
    rfl
  · obtain ⟨unconf, ghost, width, count, inside, apart, whole, sets, -, -, busy⟩ := law
    refine ⟨fun h => ?_, ghost, width, count, inside, apart, whole, sets, fun _ => rfl, fun _ _ => rfl, busy⟩
    show { r with holdOffTimer := .stopped } = unconfiguredPort
    rw [unconf h]
    rfl

/-! ## The resets at a port -/

theorem PortLaw.resetDamage {st : PortState} {hold busy : Timer} (law : PortLaw r) (hs : ¬ st = .unconfigured)
    (sets : ∀ set mark, st.refreshSet = some (set, mark) →
      (∃ mark, r.state.refreshSet = some (set, mark)) ∧ mark = true)
    (manual : r.mode = .manual → hold = .stopped) (fault : ∀ c, st = .fault c → hold = .stopped)
    (timed : busy.isRunning = st.timesBusy) :
    PortLaw { r.resetDamage with state := st, holdOffTimer := hold, busyTimer := busy } := by
  obtain ⟨-, -, width, -, -, -, -, sets', -⟩ := law
  refine ⟨fun h => absurd h hs, Nat.le_refl _, width, Nat.zero_le _, nofun, .nil, fun _ => rfl, fun set mark h => ?_,
    manual, fault, timed⟩
  obtain ⟨⟨mark', h'⟩, rfl⟩ := sets set mark h
  exact ⟨(sets' set mark' h').1, nofun⟩

theorem PortLaw.busyTimer {st : PortState} (law : PortLaw r) (h : r.state = st) :
    r.busyTimer.isRunning = st.timesBusy := by
  obtain ⟨-, -, -, -, -, -, -, -, -, -, busy⟩ := law
  rw [busy, h]

theorem PortStep.engineReset (r : PortRec) : PortStep r r.engineReset := by
  cases h : r.state with
  | unconfigured =>
    have kept : r.engineReset = r := by unfold PortRec.engineReset; rw [h]
    rw [kept]
    exact .sameState rfl (.refl r) (fun _ => rfl) id
  | idle =>
    have is : r.engineReset = { r.resetDamage with holdOffTimer := r.freshHoldOff } := by
      unfold PortRec.engineReset; rw [h]
    rw [is]
    refine .sameState rfl (.refl r) (fun hu => by simp [hu, unconfiguredPort] at h) fun law => ?_
    exact law.resetDamage (st := r.state) (by simp [h]) (by simp [h, PortState.refreshSet]) PortRec.freshHoldOff_manual (by simp [h])
      (law.busyTimer rfl)
  | pending w =>
    have is : r.engineReset =
        { r.resetDamage with state := .idle, busyTimer := .stopped, holdOffTimer := r.freshHoldOff } := by
      unfold PortRec.engineReset; rw [h]
    rw [is]
    refine .still (.refl r) (PortRec.isStreaming_of_pending h) rfl (by simp [h]) nofun nofun fun law => ?_
    exact law.resetDamage nofun nofun PortRec.freshHoldOff_manual nofun rfl
  | streaming set cmd mark =>
    have kept : ∀ set' mark', (PortState.streaming set cmd true).refreshSet = some (set', mark') →
        (∃ mark, r.state.refreshSet = some (set', mark)) ∧ mark' = true := by
      rintro set' mark' hs
      cases hs
      exact ⟨⟨mark, by simp [h, PortState.refreshSet]⟩, rfl⟩
    have is : (cmd = .update ∧ r.engineReset = { r.resetDamage with state := .streaming set cmd true }) ∨
        r.engineReset = { r.resetDamage with state := .streaming set cmd true, holdOffTimer := r.freshHoldOff } := by
      unfold PortRec.engineReset
      rw [h]
      cases cmd with
      | update => exact .inl ⟨rfl, rfl⟩
      | window | pixels | abort => exact .inr rfl
    obtain ⟨-, is⟩ | is := is
    · rw [is]
      exact .streaming (.refl r) h rfl fun law =>
        law.resetDamage nofun kept law.manual nofun ((law.busyTimer h).trans rfl)
    · rw [is]
      exact .streaming (.refl r) h rfl fun law =>
        law.resetDamage nofun kept PortRec.freshHoldOff_manual nofun ((law.busyTimer h).trans rfl)
  | settling set mark =>
    have is : r.engineReset = { r.resetDamage with state := .settling set true } := by
      unfold PortRec.engineReset; rw [h]
    rw [is]
    refine .still (.refl r) (PortRec.isStreaming_of_settling h) rfl (by simp [h]) nofun nofun fun law => ?_
    refine law.resetDamage nofun ?_ law.manual nofun ((law.busyTimer h).trans rfl)
    rintro set' mark' hs
    cases hs
    exact ⟨⟨mark, by simp [h, PortState.refreshSet]⟩, rfl⟩
  | fault c =>
    have is : r.engineReset = { r.resetDamage with state := .fault c, holdOffTimer := .stopped } := by
      unfold PortRec.engineReset; rw [h]
    rw [is]
    refine .still (.refl r) (PortRec.isStreaming_of_fault h) rfl (by simp [h]) nofun nofun fun law => ?_
    exact law.resetDamage nofun nofun (fun _ => rfl) (fun _ _ => rfl) (law.busyTimer h)

theorem PortStep.markAborting (r : PortRec) : PortStep r r.markAborting := by
  unfold PortRec.markAborting
  split
  · next set cmd mark h =>
    refine .streaming (.refl r) h rfl fun law => ?_
    obtain ⟨-, ghost, width, count, inside, apart, whole, sets, manual, -, busy⟩ := law
    refine ⟨nofun, ghost, width, count, inside, apart, whole, ?_, manual, nofun, busy.trans (by rw [h]; rfl)⟩
    rintro set' mark' hs
    cases hs
    exact ⟨(sets set mark (by simp [h, PortState.refreshSet])).1, nofun⟩
  · exact .sameState rfl (.refl r) (fun _ => rfl) id

theorem PortStep.nextCommand {set : RefreshSet} {cmd : StreamCommand} {mark : Bool} (cmd' : StreamCommand)
    (h : r.state = .streaming set cmd mark) : PortStep r { r with state := .streaming set cmd' mark } := by
  refine .streaming (.refl r) h rfl fun law => ?_
  obtain ⟨-, ghost, width, count, inside, apart, whole, sets, manual, -, busy⟩ := law
  refine ⟨nofun, ghost, width, count, inside, apart, whole, ?_, manual, nofun, busy.trans (by rw [h]; rfl)⟩
  rintro set' mark' hs
  cases hs
  exact sets set mark (by simp [h, PortState.refreshSet])

end Events

end Sys2Proof.Machine
end

section
/-! The shared operations of the ports and of the job engine as moves. -/

namespace Sys2Proof.Machine

set_option Elab.async false

/-! ## Ports -/

theorem Moves.port (s : State) (p : Port) {u : PortRec} (hu : PortStep (s.port p) u) : Moves s (s.setPort p u) :=
  (Move.port p u hu).moves

theorem Moves.damagePort (s : State) (h : Nat) (t : Rect) (p : Port) : Moves s (s.damagePort h t p) := by
  unfold State.damagePort
  split
  · exact .port s p (.addPlaneDamage _ t)
  · exact .refl s

theorem Moves.recordRows (s : State) (rows : Nat) : Moves s (s.recordRows rows) := by
  unfold State.recordRows
  split
  · exact .refl s
  · split
    · exact .refl s
    · exact (Moves.damagePort s _ _ .a).trans (.damagePort _ _ _ .b)

theorem Moves.releaseWriteHold (s : State) : Moves s s.releaseWriteHold := by
  unfold State.releaseWriteHold
  split
  · exact .refl s
  · exact Move.freeHold.moves.trans (Move.wake .hold (.inr rfl)).moves

theorem Moves.showPort (s : State) (p : Port) (force : Bool) : Moves s (s.showPort p force).1 := by
  unfold State.showPort
  dsimp only
  split
  · exact .refl s
  · next h =>
    split
    · exact .refl s
    · show Moves s ((s.setPort p { s.port p with force := (s.port p).force || force }).claimBus p)
      rw [State.setPort_claimBus]
      exact (Move.claim p _ (.enter (PortRec.isStreaming_of_idle h) (by simp [h]) (by simp [h, PortState.timesBusy])
        _ (s.port p).again)).moves
  · next h => exact .port s p (.flags _ _ (s.port p).again (by simp [h]))
  · next h => exact .port s p (.flags _ _ true (by simp [h]))
  · next h => exact .port s p (.flags _ _ true (by simp [h]))
  · exact .refl s

/-! ## Planes -/

theorem Moves.releaseWithNotice {s : State} {h : Nat} (hr : s.Releasable h) : Moves s (s.releaseWithNotice h) :=
  (Move.release h hr).moves.trans (Move.push _).moves

theorem Moves.lowerRef (s : State) (h : Nat) : Moves s (s.lowerRef h) :=
  (Move.refCount h _ fun _ => Nat.sub_le _ _).moves

theorem Moves.endReference (s : State) (h : Nat) : Moves s (s.endReference h) := by
  unfold State.endReference
  split
  · next ready =>
    have retiring : (s.plane h).state = .retiring := by
      simp only [Plane.readyToRelease, Bool.and_eq_true, decide_eq_true_eq] at ready
      exact ready.1.1
    split
    · exact (Move.due h retiring).moves
    · exact .releaseWithNotice (.inl retiring)
  · exact .refl s

theorem Moves.lowerRefs (s : State) (gone : List Job) : Moves s (s.lowerRefs gone) := .foldl .lowerRef _ s

theorem Moves.endReferences (s : State) (gone : List Job) : Moves s (s.endReferences gone) := .foldl .endReference _ s

theorem Moves.releaseDuePlanes (s : State) : Moves s s.releaseDuePlanes := by
  refine .foldl (fun t h => ?_) _ s
  split
  · next due => exact .releaseWithNotice (.inr (.inl due))
  · exact .refl t

theorem Moves.depart (s : State) (gone kept : List Job) (byReset : Bool) : Moves s (s.depart gone kept byReset) := by
  cases byReset
  · exact ((Moves.lowerRefs s gone).trans (.endReferences _ gone)).tail (.rest _ rfl)
  · exact (Moves.lowerRefs s gone).tail (.rest _ rfl)

theorem Moves.releaseLayoutLock (s : State) : Moves s s.releaseLayoutLock := by
  unfold State.releaseLayoutLock
  split
  · exact Move.unlock.moves.trans (Move.wake .lock (.inl rfl)).moves
  · exact .refl s

theorem Moves.windUpPack (s : State) : Moves s s.windUpPack :=
  (Moves.releaseDuePlanes s).trans (.releaseLayoutLock _)

/-! ## The job engine -/

theorem Moves.notifyEnd (s : State) (j : Job) (st : Status) : Moves s (s.notifyEnd j st) := by
  unfold State.notifyEnd
  split
  · exact (Move.push _).moves
  · exact .refl s

/-- Damage, release of the write hold, departure, and the data timer stopped. -/
theorem Moves.leave (s : State) (rows : Nat) :
    Moves s { (s.recordRows rows).releaseWriteHold.departHead false with dataTimer := .stopped } :=
  (((Moves.recordRows s rows).trans (.releaseWriteHold _)).trans (.depart _ _ _ false)).tail (.rest _ rfl)

theorem Moves.endHead (s : State) (j : Job) (st : Status) : Moves s (s.endHead j st) :=
  (Moves.leave s j.rowsDone).trans (.notifyEnd _ j st)

theorem Moves.stopHead (s : State) (j : Job) : Moves s (s.stopHead j) := by
  unfold State.stopHead
  split
  · exact (Moves.windUpPack s).trans (.leave _ _)
  · exact .leave s _

theorem Moves.stopHeadForReset (s : State) (j : Job) : Moves s (s.stopHeadForReset j) := by
  have gone : Moves s ((s.recordRows j.rowsDone).departHead true) := (Moves.recordRows s _).trans (.depart _ _ _ true)
  exact ((gone.tail .freeHold).tail .unlock).tail (.rest _ rfl)

theorem Moves.packProceed (s : State) (j : Job) : Moves s (s.packProceed j).1 := by
  unfold State.packProceed
  split
  · exact .refl s
  · exact (Moves.windUpPack s).trans (.endHead s.windUpPack j .ok)

theorem Moves.packTryLock (s : State) (j : Job) : Moves s (s.packTryLock j).1 := by
  unfold State.packTryLock
  split
  · next free => exact (Move.lock free.2.1).moves.trans (.packProceed _ j)
  · exact .refl s

theorem Moves.setHead (s : State) (j : Job) : Moves s (s.setHead j) := (Move.rest _ rfl).moves

theorem Moves.activate {s : State} {j : Job} {h : Nat} {t : Rect} {f : Fixed} (hr : s.readHeld h t = false) :
    Moves s (s.activate j h t f) :=
  (Move.takeHold h t hr).moves.trans (.setHead _ _)

theorem Moves.activateOrHold (s : State) (j : Job) (h : Nat) (t : Rect) (f : Fixed) :
    Moves s (s.activateOrHold j h t f) := by
  unfold State.activateOrHold
  split
  · exact .setHead s _
  · next free => exact .activate (Bool.eq_false_iff.mpr free)

theorem Moves.loadProceed (s : State) (j : Job) (n : Nat) : Moves s (s.loadProceed j n) := by
  unfold State.loadProceed
  split
  · exact (Move.rest _ rfl).moves
  · exact .refl s

theorem Moves.examineJob (s : State) (j : Job) : Moves s (s.examineJob j).1 := by
  unfold State.examineJob
  split
  · exact .activateOrHold s _ _ _ _
  · exact .activateOrHold s _ _ _ _
  · dsimp only [State.examineLoad]
    split
    · exact .setHead s _
    · next free => exact (Moves.activate (Bool.eq_false_iff.mpr free)).trans (.loadProceed _ _ _)
  · unfold State.examineText
    split
    · exact .endHead s _ _
    · dsimp only
      split
      · exact .endHead s _ _
      · exact .activateOrHold s _ _ _ _
  · exact (Moves.showPort s _ _).trans (.endHead _ _ _)
  · exact (Moves.setHead s { j with state := .active }).trans (.packTryLock _ _)
  · exact .endHead s _ _

theorem Moves.examineFor (n : Nat) (s : State) : Moves s (examineFor n s) := by
  induction n generalizing s with
  | zero => exact .refl s
  | succ n ih =>
    unfold Machine.examineFor
    split
    · exact .refl s
    · next j _ _ =>
      split
      · exact .refl s
      · dsimp only
        split
        · exact (Moves.examineJob s j).trans (ih _)
        · exact .examineJob s j

theorem Moves.examine (s : State) : Moves s s.examine := .examineFor _ s

theorem Moves.retryPack (s : State) : Moves s s.retryPack := by
  unfold State.retryPack
  split
  · exact .refl s
  · next j _ _ =>
    split
    · dsimp only
      split
      · exact (Moves.packTryLock s j).trans (.examine _)
      · exact .packTryLock s j
    · exact .refl s

theorem Moves.recheckHead (s : State) : Moves s s.recheckHead := by
  unfold State.recheckHead
  split
  · exact .retryPack s
  · exact .examine s

/-! ## Stops and resets -/

theorem LeavesBus.none : LeavesBus none := ⟨nofun, nofun⟩

theorem QuietWork.leavesBus {w : Option Work} (h : QuietWork w) : LeavesBus w := by
  obtain rfl | ⟨n, rfl⟩ | ⟨k, rfl⟩ | ⟨k, rfl⟩ := h <;> exact ⟨nofun, nofun⟩

/-- A link with other work, neither of which reaches the bus. -/
theorem Moves.link {s : State} {l : Link} (before : LeavesBus s.link.work) (after : ∀ q, ¬ l.work = some (.query q)) :
    Moves s { s with link := l } :=
  (Move.link l before after).moves

theorem Moves.answer {s : State} (h : LeavesBus s.link.work) (r : Reply) : Moves s (s.answer r) :=
  Moves.link h nofun

theorem Moves.resetPlane (s : State) (h : Nat) : Moves s (s.resetPlane h) := by
  unfold State.resetPlane
  split
  · exact .refl s
  · exact (Move.refCount h 0 fun _ => Nat.zero_le _).moves
  · next retiring => exact (Move.release h (.inl retiring)).moves

theorem Moves.resetPlanes (s : State) : Moves s (allHandles.foldl State.resetPlane s) := .foldl .resetPlane _ s

/-- What an ENGINE reset does once the plane table is as it leaves it. -/
def State.resetDone (t : State) : State :=
  State.pushNotice
    { t with
      layoutLock := false
      writeHold := none
      staging := []
      dataTimer := .stopped
      portA := t.portA.engineReset
      portB := t.portB.engineReset
      link := { t.link with cache := [], work := none } }
    (.started .resetEngine)

theorem State.finishEngineReset_eq (s : State) : s.finishEngineReset = (allHandles.foldl State.resetPlane s).resetDone :=
  rfl

theorem Moves.resetDone {t : State} (h : LeavesBus t.link.work) : Moves t t.resetDone := by
  have a : Moves t (t.setPort .a t.portA.engineReset) := .port t .a (.engineReset _)
  have b := a.trans (.port _ .b (.engineReset t.portB))
  have link := b.tail (.link { t.link with cache := [], work := none } h nofun)
  exact (((link.tail .unlock).tail .freeHold).tail (.rest _ rfl)).tail (.push _)

theorem EngineOnly.resetPlane (s : State) (h : Nat) : EngineOnly s (s.resetPlane h) := by
  unfold State.resetPlane
  split
  · exact .refl s
  · exact .setPlane s h _
  · exact .releasePlane s h

theorem Moves.finishEngineReset {s : State} (h : LeavesBus s.link.work) : Moves s s.finishEngineReset := by
  rw [State.finishEngineReset_eq]
  have planes : EngineOnly s (allHandles.foldl State.resetPlane s) := .foldl _ .resetPlane _ s
  obtain ⟨-, -, -, -, -, link, -⟩ := planes.keeps
  exact (Moves.resetPlanes s).trans (.resetDone (by rw [link]; exact h))

theorem EngineOnly.link {s t : State} (h : EngineOnly s t) : t.link = s.link := h.keeps.2.2.2.2.2.1

theorem Moves.stopAtBoundary (s : State) (j : Job) : Moves s (s.stopAtBoundary j) := by
  unfold State.stopAtBoundary
  split
  · next n hw =>
    have stopped : EngineOnly s (s.stopHead j).examine := (EngineOnly.stopHead s j).trans (.examine _)
    exact ((Moves.stopHead s j).trans (.examine _)).trans (.answer (by rw [stopped.link, hw]; exact ⟨nofun, nofun⟩) _)
  · next count first last hw =>
    exact (Moves.stopHead s j).trans (.answer (by rw [(EngineOnly.stopHead s j).link, hw]; exact ⟨nofun, nofun⟩) _)
  · next hw =>
    exact (Moves.stopHeadForReset s j).trans
      (.finishEngineReset (by rw [(EngineOnly.stopHeadForReset s j).link, hw]; exact ⟨nofun, nofun⟩))
  · exact .refl s

theorem Moves.afterRow {s goesOn : State} (j : Job) (height : Nat) (st : Status) (h : Moves s goesOn) :
    Moves s (s.afterRow j height st goesOn) := by
  unfold State.afterRow
  split
  · exact .stopAtBoundary s j
  · split
    · exact (Moves.endHead s j st).trans (.examine _)
    · exact h

theorem RowDrawn.moves {s t goesOn : State} {j : Job} {height : Nat} (h : RowDrawn s j t height goesOn) :
    Moves s t ∧ Moves t goesOn := by
  cases h with
  | fill | block | text => exact ⟨(Move.rest _ rfl).moves, .refl _⟩
  | load => exact ⟨(Move.rest _ rfl).moves, .loadProceed _ _ _⟩

theorem Moves.beginEngineReset {s : State} (h : LeavesBus s.link.work) : Moves s s.beginEngineReset := by
  have flushed : Moves s (s.flushWaiting true) := .depart s _ _ true
  have work : LeavesBus (s.flushWaiting true).link.work := by
    have kept : (s.flushWaiting true).link = s.link := EngineOnly.link (EngineOnly.depart s s.flushedJobs s.keptHead true)
    rw [kept]
    exact h
  unfold State.beginEngineReset
  dsimp only
  split
  · exact flushed.trans (.finishEngineReset work)
  · next j _ _ =>
    split
    · refine (flushed.trans (.stopHeadForReset _ j)).trans (.finishEngineReset ?_)
      rw [(EngineOnly.stopHeadForReset _ j).link]
      exact work
    · exact flushed.trans (.link work nofun)

theorem Moves.fullBegun {s : State} (h : LeavesBus s.link.work) : Moves s s.fullBegun := by
  have a : Moves s (s.setPort .a s.portA.markAborting) := .port s .a (.markAborting _)
  have b := a.trans (.port _ .b (.markAborting s.portB))
  exact b.trans (.link h nofun)

/-! ## The acts of the ports -/

theorem Moves.claimIdle {s : State} {p : Port} (h : (s.port p).state = .idle) : Moves s (s.claimBus p) :=
  .claimBus (PortRec.isStreaming_of_idle h) (by simp [h]) (by simp [h, PortState.timesBusy])

/-- A settled or waiting port whose record is written and that then claims the bus. -/
theorem Moves.setThenClaim {s : State} {p : Port} {u : PortRec} (h : PortStep (s.port p) u) (hu : u.state = .idle) :
    Moves s ((s.setPort p u).claimBus p) := by
  refine (Moves.port s p h).trans (.claimIdle ?_)
  rw [State.port_setPort, if_pos rfl, hu]

theorem Moves.completeRefresh {s : State} {p : Port} {set : RefreshSet} (h : (s.port p).state = .settling set false) :
    Moves s (s.completeRefresh p set) := by
  have done : Moves s ((s.setPort p ((s.port p).completed set)).pushNotice (refreshEnd p (s.port p) set)) :=
    (Moves.port s p (.completed h)).tail (.push _)
  unfold State.completeRefresh
  dsimp only
  split
  · refine done.trans (.claimIdle ?_)
    show ((s.setPort p ((s.port p).completed set)).port p).state = .idle
    rw [State.port_setPort, if_pos rfl]
    rfl
  · exact done

theorem Moves.endAbandoned {s : State} {p : Port} {set : RefreshSet} (h : (s.port p).state = .settling set true) :
    Moves s (s.endAbandoned p) := by
  have toIdle (timer : Timer) (again : Bool) (manual : PortLaw (s.port p) → (s.port p).mode = .manual → timer = .stopped) :
      PortStep (s.port p)
        { s.port p with state := .idle, again := again, holdOffTimer := timer, busyTimer := .stopped } :=
    .still (.refl _) (PortRec.isStreaming_of_settling h) rfl (by simp [h]) nofun nofun fun law => law.idle (manual law)
  unfold State.endAbandoned
  dsimp only
  split
  · exact .setThenClaim (toIdle (s.port p).holdOffTimer false PortLaw.manual) rfl
  · exact .port s p (toIdle (s.port p).freshHoldOff (s.port p).again fun _ => PortRec.freshHoldOff_manual)

theorem Moves.lineFallen (s : State) (p : Port) : Moves s (s.lineFallen p) := by
  unfold State.lineFallen
  split
  · next h => exact .completeRefresh h
  · next h => exact .endAbandoned h
  · next h =>
    rw [State.setPort_claimBus]
    refine (Move.claim p { s.port p with busyTimer := .stopped, state := .pending .bus }
      ⟨⟨rfl, rfl, rfl, rfl, rfl, rfl⟩, PortRec.isStreaming_of_pending h, by simp [h], rfl, fun law => ?_⟩).moves
    obtain ⟨-, ghost, width, count, inside, apart, whole, -, manual, -⟩ := law
    exact ⟨nofun, ghost, width, count, inside, apart, whole, nofun, manual, nofun, rfl⟩
  · exact .refl s

theorem Moves.busyExpired (s : State) (p : Port) : Moves s (s.busyExpired p) := by
  unfold State.busyExpired State.enterFault
  split
  · next h => exact (Moves.port s p (.timedOut h)).tail (.push _)
  · next h => exact .endAbandoned h
  · next h => exact (Moves.port s p (.stuck h)).tail (.push _)
  · exact .refl s

theorem Moves.holdOffExpired (s : State) (p : Port) : Moves s (s.holdOffExpired p) := by
  unfold State.holdOffExpired
  split
  · exact .refl s
  · next h =>
    split
    · exact .claimIdle h
    · exact .refl s
  · exact .refl s
  · next h => exact .port s p (.flags _ (s.port p).force true (by simp [h]))
  · next h => exact .port s p (.flags _ (s.port p).force true (by simp [h]))
  · exact .refl s

theorem Moves.holdOffTimer (s : State) (p : Port) :
    Moves s (State.holdOffExpired (s.setPort p { s.port p with holdOffTimer := .stopped }) p) :=
  (Moves.port s p (.holdOffStopped _)).trans (.holdOffExpired _ p)

theorem State.onBus_eq_some {s : State} {p : Port} {set : RefreshSet} {cmd : StreamCommand} {mark : Bool}
    (h : s.onBus = some (p, set, cmd, mark)) :
    s.bus.owner = .port p ∧ (s.port p).state = .streaming set cmd mark := by
  unfold State.onBus at h
  split at h
  · cases h
  · cases h
  · next o ho =>
    split at h
    · next hs =>
      cases h
      exact ⟨ho, hs⟩
    · cases h

/-! ## The acts -/

/-- What a change of one record leaves of every record. -/
theorem State.planeField_setPlane {α : Type} (f : Plane → α) (s : State) (k : Nat) {p : Plane} (hp : f p = f (s.plane k))
    (h : Nat) : f ((s.setPlane k p).plane h) = f (s.plane h) := by
  by_cases hk : 1 ≤ k ∧ k ≤ 24
  · rw [State.plane_setPlane s h k p hk.1 hk.2]
    split
    · next same => rw [hp, same]
    · rfl
  · rw [State.plane_setPlane_outside s h k p (by omega)]

theorem State.raiseRef_state (s : State) (k h : Nat) : ((s.raiseRef k).plane h).state = (s.plane h).state :=
  s.planeField_setPlane Plane.state k (p := { s.plane k with refCount := (s.plane k).refCount + 1 }) rfl h

/-- Ref counts raised change the ref counts alone. -/
theorem State.raiseRefs_state (l : List Nat) (s : State) (h : Nat) :
    ((l.foldl State.raiseRef s).plane h).state = (s.plane h).state := by
  induction l generalizing s with
  | nil => rfl
  | cons k l ih => exact (ih _).trans (s.raiseRef_state k h)

theorem Moves.raiseRefs {l : List Nat} {s : State} (live : ∀ h ∈ l, ¬ (s.plane h).state = .free) :
    Moves s (l.foldl State.raiseRef s) := by
  induction l generalizing s with
  | nil => exact .refl s
  | cons k l ih =>
    have raised : Moves s (s.raiseRef k) :=
      (Move.refCount k _ fun free => absurd free (live k List.mem_cons_self)).moves
    refine raised.trans (ih fun h hm => ?_)
    rw [s.raiseRef_state k h]
    exact live h (List.mem_cons_of_mem _ hm)

/-- The planes that an accepted job names are LIVE. -/
theorem State.planeStatus_live {s : State} {b : JobBody} (hp : s.planeStatus b = none) :
    ∀ h ∈ b.planes, (s.plane h).state = .live := by
  intro h hm
  unfold State.planeStatus at hp
  split at hp
  · cases hp
  · next notFree =>
    split at hp
    · cases hp
    · next notRetiring =>
      rw [List.any_eq_true] at notFree notRetiring
      cases hs : (s.plane h).state with
      | free => exact absurd ⟨h, hm, decide_eq_true hs⟩ notFree
      | live => rfl
      | retiring => exact absurd ⟨h, hm, decide_eq_true hs⟩ notRetiring

theorem Moves.accept {s : State} {b : JobBody} {report : Bool} (hp : s.planeStatus b = none) :
    Moves s (s.accept b report) := by
  have raised : Moves s (b.planes.foldl State.raiseRef s) :=
    .raiseRefs fun h hm free => PlaneState.noConfusion (free.symm.trans (State.planeStatus_live hp h hm))
  exact raised.tail (.rest _ rfl)

theorem Moves.removeWaiting (s : State) (j : Job) : Moves s (s.removeWaiting j) := by
  unfold State.removeWaiting
  dsimp only
  split
  · exact (Moves.depart s _ _ _).trans (.examine _)
  · exact .depart s _ _ _

theorem Moves.flushWaiting (s : State) (byReset : Bool) : Moves s (s.flushWaiting byReset) := .depart s _ _ _

theorem Moves.afterStaging (s : State) : Moves s s.afterStaging := by
  unfold State.afterStaging
  repeat' split
  · exact .refl s
  · exact (Move.rest _ rfl).moves
  · exact (Move.rest _ rfl).moves
  · exact .refl s
  · exact .refl s
  · exact .refl s

theorem Moves.endFill {s : State} {h : Nat} {v : Px} (hw : s.link.work = some (.fill h v)) : Moves s (s.endFill h v) := by
  have filled : Moves s (s.fillPlane h v) := (Move.rest _ rfl).moves
  refine (filled.trans (.answer ?_ _)).trans (.retryPack _)
  show LeavesBus s.link.work
  rw [hw]
  exact ⟨nofun, nofun⟩

/-- What follows the move of an extent. -/
theorem Moves.extentMoved (s : State) (j : Job) (x : OwnedExtent) (t : Nat) :
    Moves (s.moveExtent x t) (s.extentMoved j x t) := by
  have head : Moves (s.moveExtent x t) ((s.moveExtent x t).setHead j.nextRow) := .setHead _ _
  unfold State.extentMoved
  dsimp only
  split
  · exact head.trans (.stopAtBoundary _ _)
  · split
    · exact (head.trans (.packProceed _ _)).trans (.examine _)
    · exact head.trans (.packProceed _ _)

theorem Moves.appendGlyph {s : State} {g : Glyph} {bitmap : List Byte} (hid : g.font ≤ 3) :
    Moves s (s.appendGlyph g bitmap) := by
  have written : Moves s (s.writeBytes (Config.blockBytes * (s.font g.font).extent.first + (s.font g.font).usedBytes)
    bitmap) := (Move.rest _ rfl).moves
  exact written.tail (.font g.font _ (placeGlyph g s.glyphs) hid rfl rfl)

theorem Moves.setBusyLine (s : State) (p : Port) (v : Bool) : Moves s (s.setBusyLine p v) := by
  cases p <;> exact (Move.rest _ rfl).moves

/-- A port that leaves STREAMING for a state that neither streams nor claims. -/
structure StreamEnd (r u : PortRec) : Prop where
  streamed : r.isStreaming = true
  window : SameWindow r u
  still : u.isStreaming = false
  claim : ¬ u.state = .pending .bus
  configured : ¬ u.state = .unconfigured
  law : PortLaw r → PortLaw u

theorem StreamEnd.settle {r : PortRec} {set : RefreshSet} {cmd : StreamCommand} {mark : Bool}
    (h : r.state = .streaming set cmd mark) : StreamEnd r (r.settle set mark) := by
  refine ⟨PortRec.isStreaming_streaming h, ⟨rfl, rfl, rfl, rfl, rfl, rfl⟩, rfl, nofun, nofun, fun law => ?_⟩
  obtain ⟨-, ghost, width, count, inside, apart, whole, sets, manual, -⟩ := law
  refine ⟨nofun, ghost, width, count, inside, apart, whole, ?_, manual, nofun, rfl⟩
  rintro set' mark' hs
  cases hs
  exact sets set mark (by simp [h, PortState.refreshSet])

theorem StreamEnd.idle {r : PortRec} {set : RefreshSet} {cmd : StreamCommand} {mark : Bool}
    (h : r.state = .streaming set cmd mark) : StreamEnd r { r with state := .idle } := by
  refine ⟨PortRec.isStreaming_streaming h, ⟨rfl, rfl, rfl, rfl, rfl, rfl⟩, rfl, nofun, nofun, fun law => ?_⟩
  have busy := law.busyTimer h
  obtain ⟨-, ghost, width, count, inside, apart, whole, -, manual, -⟩ := law
  exact ⟨nofun, ghost, width, count, inside, apart, whole, nofun, manual, nofun, busy⟩

/-- What an act is made of: moves, or one of the changes that the laws are proved for one by one. -/
inductive Deed (s : State) : State → Prop
  | moves (u : State) (h : Moves s u) : Deed s u
  | blank (u : State) (hb : u.Blank) (hm : u.mem = s.mem ∨ u.mem = []) (hp : u.pending = s.pending) : Deed s u
  | planeMade (width height depth fill h first : Nat) (left : List Extent)
    (hf : newPlaneFieldsOk width height depth fill = true) (hh : s.freeHandle = some h)
    (ha : allocate s.freeList (planeBlocks width height depth) = some (first, left)) (hw : s.link.work = none) :
    Deed s ((State.setPlane { s with freeList := left } h (newPlaneRecord width height depth first)).occupy
      (.fill h (BitVec.ofNat 2 fill)))
  | fontMade (id blocks lineHeight fallback first : Nat) (left : List Extent) (hid : id ≤ 3) (hb : 1 ≤ blocks)
    (hf : ¬ (s.font id).state = .defined) (ha : allocate s.freeList blocks = some (first, left)) :
    Deed s (State.setFont { s with freeList := left } id (newFontRecord first blocks lineHeight fallback))
  | fontDropped (id : Nat) (hid : id ≤ 3) (hd : ¬ (s.font id).state = .undefined) : Deed s (s.dropFont id)
  | extentMoved (x : OwnedExtent) (t : Nat) (u : State) (hm : s.nextMove = some (x, t))
    (h : Moves (s.moveExtent x t) u) : Deed s u
  | queryClaimed (q : PanelRequest) (hr : panelRangesOk q = true) (hq : s.panelStatus q = none)
    (hw : s.link.work = none) : Deed s (s.occupy (.query q)).arbitrate
  | queried (q : PanelRequest) (id : Byte) (hb : s.bus.owner = .query) (hw : s.link.work = some (.query q)) :
    Deed s (s.queryResult q id).giveBack
  | portReleased (p : Port) (hs : ¬ (s.port p).state = .unconfigured) (hb : (s.port p).busy = false)
    (hw : s.link.work = none) : Deed s ((s.unbind p).setPort p unconfiguredPort)
  | streamEnded (p : Port) (u : PortRec) (order : BoundaryOrder) (hb : s.bus.owner = .port p)
    (hu : StreamEnd (s.port p) u) : Deed s ((s.setPort p u).afterStreaming order)

theorem Act.deed {s u : State} (h : Act s u) : Deed s u := by
  cases h with
  | idle => exact .moves _ (.refl s)
  | work w hs hw =>
    refine .moves _ (.link hs.leavesBus hw.leavesBus.1)
  | blank _ hb hm hp => exact .blank _ hb hm hp
  | patterns => exact .moves _ (Move.rest _ rfl).moves
  | planeMade width height depth fill h first left hf _ hh ha hw =>
    exact .planeMade width height depth fill h first left hf hh ha hw
  | fillEnded h v hw => exact .moves _ (.endFill hw)
  | planeFreed h hs hb _ _ hw => exact .moves _ (Move.release h (.inr (.inr ⟨hs, hb, hw⟩))).moves
  | planeRetired h hs hb _ _ hw => exact .moves _ (Move.retire h hs hb hw).moves
  | fontMade id blocks lineHeight fallback first left hid hb hf ha =>
    exact .fontMade id blocks lineHeight fallback first left hid hb hf ha
  | glyphAppended g bitmap hid => exact .moves _ (.appendGlyph hid)
  | fontDropped id hid hd => exact .fontDropped id hid hd
  | submitted b report _ hp =>
    refine .moves _ ?_
    split
    · exact (Moves.accept hp).trans (.examine _)
    · exact .accept hp
  | waitingRemoved n j => exact .moves _ (.removeWaiting s j)
  | runningStopped n j => exact .moves _ ((Moves.stopHead s j).trans (.examine _))
  | flushed => exact .moves _ (.flushWaiting s false)
  | flushStopped j => exact .moves _ ((Moves.flushWaiting s false).trans (.stopHead _ j))
  | flushWaits j rest count first last ht hw =>
    have kept : (s.flushWaiting false).link = s.link :=
      EngineOnly.link (EngineOnly.depart s s.flushedJobs s.keptHead false)
    exact .moves _ ((Moves.flushWaiting s false).trans (.link (by rw [kept, hw]; exact .none) nofun))
  | staged j bytes =>
    have staged : Moves s (s.stage bytes) := (Move.rest _ rfl).moves
    exact .moves _ (staged.trans (.afterStaging _))
  | rowEnded j rest t goesOn height st hj ha hd => exact .moves _ (hd.moves.1.trans (.afterRow _ _ _ hd.moves.2))
  | timedOut j => exact .moves _ ((Moves.endHead s j _).trans (.examine _))
  | extentMoved j rest x t hj hp hl hm => exact .extentMoved x t _ hm (.extentMoved s j x t)
  | engineReset hw => exact .moves _ (.beginEngineReset (by rw [hw]; exact ⟨nofun, nofun⟩))
  | fullReset hw => exact .moves _ (.fullBegun (by rw [hw]; exact ⟨nofun, nofun⟩))
  | queryClaimed q hr hq hw => exact .queryClaimed q hr hq hw
  | queried q id hb hw => exact .queried q id hb hw
  | portReleased p hs hb hw => exact .portReleased p hs hb hw
  | faultCleared p c hs => exact .moves _ (.port s p (.cleared hs))
  | transaction p set cmd mark hb => exact .moves _ (.port s p (.nextCommand _ (State.onBus_eq_some hb).2))
  | updated p set mark order hb =>
    exact .streamEnded p _ order (State.onBus_eq_some hb).1 (.settle (State.onBus_eq_some hb).2)
  | aborted p set mark order hb =>
    exact .streamEnded p _ order (State.onBus_eq_some hb).1 (.idle (State.onBus_eq_some hb).2)
  | lineRose p => exact .moves _ (.setBusyLine s p true)
  | lineFell p => exact .moves _ ((Moves.setBusyLine s p false).trans (.lineFallen _ p))
  | busyExpired p => exact .moves _ (.busyExpired s p)
  | holdOffExpired p => exact .moves _ (.holdOffTimer s p)

/-- A law that looks past the link and the notices, and that every deed keeps, holds after every step. -/
theorem step_keeps_of_deed {L : State → Prop} (same : ∀ {s t}, SameEngine s t → L s → L t)
    (pending : ∀ {s} p, L s → L { s with pending := p }) (deed : ∀ {s u}, Deed s u → L s → L u) {s t : State}
    (h : step s = .next t) (hs : L s) : L t :=
  step_keeps same pending (fun act => deed act.deed) h hs

end Sys2Proof.Machine
end

section
/-! The laws of the panel bus and of the holds (O59). -/

namespace Sys2Proof.Machine

set_option Elab.async false

/-! ## The arbiter -/

theorem State.claims_iff {s : State} {p : Port} :
    s.claims p = true ↔ (s.port p).state = .pending .bus ∧ ¬ s.link.work = some .fullWaiting := by
  simp [State.claims, PortRec.waits, State.claimsWithdrawn]

theorem State.queryWaits_iff {s : State} : s.queryWaits = true ↔ ∃ q, s.link.work = some (.query q) := by
  unfold State.queryWaits
  split
  · next q hw => exact ⟨fun _ => ⟨q, hw⟩, fun _ => rfl⟩
  · next absent => exact ⟨nofun, fun ⟨q, hw⟩ => absurd hw (absent q)⟩

theorem State.chosen_port {s : State} {p : Port} (h : s.chosen = .port p) : s.queryWaits = false ∧ s.claims p = true := by
  unfold State.chosen at h
  split at h
  · cases h
  · next quiet =>
    refine ⟨Bool.eq_false_iff.mpr quiet, ?_⟩
    split at h
    · next claims => exact BusOwner.port.inj h ▸ claims
    · split at h
      · next claims => exact BusOwner.port.inj h ▸ claims
      · cases h

theorem State.chosen_none {s : State} (h : s.chosen = .none) :
    s.queryWaits = false ∧ s.claims .a = false ∧ s.claims .b = false := by
  unfold State.chosen at h
  split at h
  · cases h
  · next quiet =>
    split at h
    · cases h
    · next first =>
      split at h
      · cases h
      · next second =>
        refine ⟨Bool.eq_false_iff.mpr quiet, ?_⟩
        cases hp : s.bus.firstPort <;> rw [hp] at first second
        · exact ⟨Bool.eq_false_iff.mpr first, Bool.eq_false_iff.mpr second⟩
        · exact ⟨Bool.eq_false_iff.mpr second, Bool.eq_false_iff.mpr first⟩

theorem State.chosen_query {s : State} (h : s.chosen = .query) : s.queryWaits = true := by
  unfold State.chosen at h
  split at h
  · next waits => exact waits
  · split at h
    · cases h
    · split at h <;> cases h

theorem State.arbitrate_owned {s : State} (h : ¬ s.bus.owner = .none) : s.arbitrate = s := by
  unfold State.arbitrate
  rw [arbitrateFor]
  split
  · rfl
  · rfl
  · next free => exact absurd free h

/-- A property that a grant to the query and a grant to a port keep is kept by the arbiter. -/
theorem State.arbitrate_keeps {L : State → Prop}
    (query : ∀ {s}, s.bus.owner = .none → L s → L { s with bus := { s.bus with owner := .query } })
    (grant : ∀ {s p}, s.bus.owner = .none → s.claims p = true → L s → L (s.grantPort p)) {s : State} (h : L s) :
    L s.arbitrate := by
  have turns (n : Nat) : ∀ {s}, L s → L (arbitrateFor n s) := by
    induction n with
    | zero => exact id
    | succ n ih =>
      intro s h
      unfold arbitrateFor
      split
      · exact h
      · exact h
      · next free =>
        split
        · exact h
        · exact query free h
        · next p chosen => exact ih (grant free (State.chosen_port chosen).2 h)
  exact turns 3 h

/-- What the examination of a start makes of a port (R123). -/
theorem State.examinedPort_cases (s : State) (p : Port) :
    (∃ w, (w = .lock ∨ w = .hold) ∧ s.examinedPort p = { s.port p with state := .pending w }) ∨
      s.examinedPort p = { s.port p with state := .pending .busy, busyTimer := .running (s.port p).busyTimeout } ∨
      s.layoutLock = false ∧ s.writeHoldBlocks (s.port p) (s.port p).buildSet = false ∧
        s.examinedPort p = (s.port p).startStreaming := by
  unfold State.examinedPort
  dsimp only
  split
  · exact .inl ⟨.lock, .inl rfl, rfl⟩
  · next unlocked =>
    split
    · exact .inr (.inl rfl)
    · split
      · exact .inl ⟨.hold, .inr rfl, rfl⟩
      · next free => exact .inr (.inr ⟨Bool.eq_false_iff.mpr unlocked, Bool.eq_false_iff.mpr free, rfl⟩)

theorem State.grantPort_port (s : State) (p o : Port) :
    (s.grantPort p).port o = if o = p then s.examinedPort p else s.port o := by
  cases p <;> cases o <;> rfl

theorem State.setPort_arbitrate_owned {s : State} {p : Port} {u : PortRec} (h : ¬ s.bus.owner = .none) :
    (s.setPort p u).arbitrate = s.setPort p u :=
  State.arbitrate_owned (by rw [State.setPort_bus]; exact h)

/-! ## The holds -/

/-- The write hold overlaps no read hold of a port. -/
def HoldsApart (w : Option Hold) (r : PortRec) : Prop :=
  ∀ h, w = some h → r.boundPlane = h.plane → ∀ t ∈ r.readHolds, overlaps h.rect t = false

theorem holdLaw_iff {s : State} : HoldLaw s ↔ ∀ p, HoldsApart s.writeHold (s.port p) :=
  ⟨fun h p w => h w p, fun h w p => h p w⟩

theorem HoldsApart.none (r : PortRec) : HoldsApart none r := nofun

theorem HoldsApart.still {r : PortRec} (w : Option Hold) (h : r.isStreaming = false) : HoldsApart w r := by
  intro _ _ _ t ht
  rw [PortRec.readHolds_of_still h] at ht
  cases ht

theorem HoldsApart.congr {r u : PortRec} {w : Option Hold} (h : HoldsApart w r) (plane : u.boundPlane = r.boundPlane)
    (holds : u.readHolds = r.readHolds) : HoldsApart w u := by
  intro x hx hp t ht
  exact h x hx (plane ▸ hp) t (holds ▸ ht)

theorem HoldLaw.congr {s t : State} (h : HoldLaw s) (ha : t.portA = s.portA) (hb : t.portB = s.portB)
    (hw : t.writeHold = s.writeHold) : HoldLaw t := by
  rw [holdLaw_iff] at h ⊢
  intro p
  rw [hw, State.port_congr ha hb]
  exact h p

theorem HoldLaw.setPort {s : State} (h : HoldLaw s) (p : Port) {u : PortRec} (hu : HoldsApart s.writeHold u) :
    HoldLaw (s.setPort p u) := by
  rw [holdLaw_iff] at h ⊢
  intro o
  rw [State.setPort_writeHold, State.port_setPort]
  split
  · exact hu
  · exact h o

/-- A port that the write hold does not block starts with read holds apart from it. -/
theorem HoldsApart.examined (s : State) (p : Port) : HoldsApart s.writeHold (s.examinedPort p) := by
  obtain ⟨w, -, is⟩ | is | ⟨-, free, is⟩ := s.examinedPort_cases p
  · rw [is]
    exact .still _ rfl
  · rw [is]
    exact .still _ rfl
  · rw [is]
    intro h hw hp t ht
    rw [State.writeHoldBlocks, hw] at free
    have apart : ∀ t ∈ (s.port p).buildSet.rects.map (s.port p).toPlane, ¬ overlaps h.rect t = true := by
      simpa [show h.plane = (s.port p).boundPlane from hp.symm] using free
    exact Bool.eq_false_iff.mpr (apart t ht)

theorem HoldLaw.arbitrate {s : State} (h : HoldLaw s) : HoldLaw s.arbitrate := by
  refine State.arbitrate_keeps (L := HoldLaw) (fun _ h => h) (fun {s p} _ _ h => ?_) h
  exact (h.setPort p (.examined s p)).congr (by cases p <;> rfl) (by cases p <;> rfl) (by cases p <;> rfl)

theorem HoldLaw.giveBack {s : State} (h : HoldLaw s) : HoldLaw s.giveBack :=
  HoldLaw.arbitrate (s := { s with bus := { s.bus with owner := .none } }) h

theorem HoldLaw.wakeFrom {s : State} (h : HoldLaw s) (w : Wait) (p : Port) : HoldLaw (s.wakeFrom w p) := by
  unfold State.wakeFrom State.enterBusWait
  split
  · exact h.setPort p (.still _ rfl)
  · exact h

theorem readHeld_apart {s : State} {h : Nat} {t : Rect} (hr : s.readHeld h t = false) (p : Port) :
    HoldsApart (some { plane := h, rect := t }) (s.port p) := by
  intro w hw hp u hu
  cases hw
  have free : (s.port p).holdsAgainst h t = false := by
    unfold State.readHeld at hr
    rw [Bool.or_eq_false_iff] at hr
    cases p
    · exact hr.1
    · exact hr.2
  simp only [PortRec.holdsAgainst, show (s.port p).boundPlane = h from hp, decide_true, Bool.true_and] at free
  exact Bool.eq_false_iff.mpr fun meets => Bool.eq_false_iff.mp free (List.any_eq_true.mpr ⟨u, hu, meets⟩)

theorem Move.holdLaw {s t : State} (h : Move s t) (hs : HoldLaw s) : HoldLaw t := by
  cases h with
  | rest _ h => exact hs.congr (by rw [h]) (by rw [h]) (by rw [h])
  | push | unlock | lock | link | font => exact hs
  | refCount | due | retire =>
    exact hs.congr (State.setPlane_portA ..) (State.setPlane_portB ..) (State.setPlane_writeHold ..)
  | release h =>
    exact hs.congr (State.setPlane_portA ..) (State.setPlane_portB ..) (State.setPlane_writeHold ..)
  | port p u hu => exact hs.setPort p ((holdLaw_iff.mp hs p).congr hu.window.1 hu.holds)
  | claim p u hu =>
    refine (hs.setPort p (.still _ (PortRec.isStreaming_of_pending hu.claims))).arbitrate
  | wake w => exact ((hs.wakeFrom w .a).wakeFrom w .b).arbitrate
  | freeHold => exact holdLaw_iff.mpr fun p => .none _
  | takeHold h t hr => exact holdLaw_iff.mpr fun p => readHeld_apart hr p

theorem Moves.holdLaw {s t : State} (h : Moves s t) : HoldLaw s → HoldLaw t := h.keeps Move.holdLaw

theorem State.moveExtent_frame (s : State) (x : OwnedExtent) (t : Nat) :
    s.moveExtent x t =
      { s with
        mem := (s.moveExtent x t).mem, freeList := (s.moveExtent x t).freeList
        planes := (s.moveExtent x t).planes, fonts := (s.moveExtent x t).fonts } := by
  unfold State.moveExtent State.relocate State.setPlane
  split
  · split <;> rfl
  · rfl

theorem State.queryResult_frame (s : State) (q : PanelRequest) (id : Byte) :
    s.queryResult q id =
      { s with
        planes := (s.queryResult q id).planes, portA := (s.queryResult q id).portA
        portB := (s.queryResult q id).portB, link := (s.queryResult q id).link } := by
  unfold State.queryResult State.configure State.bind State.unbind State.setPlane
  dsimp only
  cases q.port <;> (repeat' split) <;> rfl

/-- The port of a driver query is configured anew or stays as it is, and the other port stays. -/
theorem State.queryResult_port (s : State) (q : PanelRequest) (id : Byte) (p : Port) :
    (s.queryResult q id).port p = s.port p ∨
      p = q.port ∧ (s.queryResult q id).port p = configuredPort q id.toNat := by
  unfold State.queryResult
  split
  · show ((s.configure q id.toNat).port p = s.port p) ∨ p = q.port ∧ (s.configure q id.toNat).port p = _
    unfold State.configure State.bind
    rw [State.port_setPort]
    split
    · next same => exact .inr ⟨same, rfl⟩
    · refine .inl (State.port_congr ?_ ?_ p) <;> rw [State.unbind_eq] <;> simp
  · exact .inl rfl

theorem Deed.holdLaw {s u : State} (h : Deed s u) (hs : HoldLaw s) : HoldLaw u := by
  cases h with
  | moves _ h => exact h.holdLaw hs
  | blank _ hb => exact hb.holdLaw
  | planeMade =>
    exact hs.congr (State.setPlane_portA ..) (State.setPlane_portB ..) (State.setPlane_writeHold ..)
  | fontMade | fontDropped => exact hs
  | extentMoved x t _ _ h =>
    refine h.holdLaw (hs.congr ?_ ?_ ?_) <;> rw [s.moveExtent_frame]
  | queryClaimed => exact HoldLaw.arbitrate (s := s.occupy _) hs
  | queried q id =>
    refine HoldLaw.giveBack (holdLaw_iff.mpr fun p => ?_)
    have kept : (s.queryResult q id).writeHold = s.writeHold := by rw [s.queryResult_frame]
    rw [kept]
    obtain same | ⟨-, anew⟩ := s.queryResult_port q id p
    · exact same ▸ holdLaw_iff.mp hs p
    · exact anew ▸ .still _ rfl
  | portReleased p =>
    refine HoldLaw.setPort (HoldLaw.congr hs ?_ ?_ ?_) p (.still _ rfl) <;> rw [State.unbind_eq] <;> simp
  | streamEnded p u order hb hu =>
    have ended : HoldLaw (s.setPort p u) := hs.setPort p (.still _ hu.still)
    cases order
    · exact ((Moves.recheckHead _).holdLaw ended).giveBack
    · exact (Moves.recheckHead _).holdLaw ended.giveBack

/-! ## The bus -/

/-- The laws of the panel bus while the arbiter has yet to look. -/
structure BusBefore (s : State) : Prop where
  streams : ∀ p, (s.port p).isStreaming = true ↔ s.bus.owner = .port p
  query : s.bus.owner = .query → s.queryWaits = true
  lock : s.layoutLock = true → s.anyStreaming = false

theorem busLaw_iff {s : State} :
    BusLaw s ↔ BusBefore s ∧
      (s.bus.owner = .none → s.queryWaits = false ∧ s.claims .a = false ∧ s.claims .b = false) :=
  ⟨fun ⟨streams, query, lock, free⟩ => ⟨⟨streams, query, lock⟩, free⟩,
    fun ⟨⟨streams, query, lock⟩, free⟩ => ⟨streams, query, lock, free⟩⟩

theorem anyStreaming_eq_false {s : State} : s.anyStreaming = false ↔ ∀ p, (s.port p).isStreaming = false := by
  unfold State.anyStreaming
  rw [Bool.or_eq_false_iff]
  exact ⟨fun h p => by cases p; exacts [h.1, h.2], fun h => ⟨h .a, h .b⟩⟩

theorem queryWaits_congr {s t : State} (h : t.link.work = s.link.work) : t.queryWaits = s.queryWaits := by
  unfold State.queryWaits
  rw [h]

theorem claims_congr {s t : State} (h : t.link.work = s.link.work) (p : Port) (hp : t.port p = s.port p) :
    t.claims p = s.claims p := by
  unfold State.claims State.claimsWithdrawn
  rw [h, hp]

theorem anyStreaming_congr {s t : State} (ha : t.portA = s.portA) (hb : t.portB = s.portB) :
    t.anyStreaming = s.anyStreaming := by
  unfold State.anyStreaming
  rw [ha, hb]

theorem BusBefore.congr {s t : State} (h : BusBefore s) (ha : t.portA = s.portA) (hb : t.portB = s.portB)
    (bus : t.bus = s.bus) (lock : t.layoutLock = s.layoutLock) (work : t.link.work = s.link.work) : BusBefore t where
  streams := fun p => by rw [State.port_congr ha hb, bus]; exact h.streams p
  query := by rw [bus, queryWaits_congr work]; exact h.query
  lock := by rw [lock, anyStreaming_congr ha hb]; exact h.lock

theorem BusLaw.congr {s t : State} (h : BusLaw s) (ha : t.portA = s.portA) (hb : t.portB = s.portB)
    (bus : t.bus = s.bus) (lock : t.layoutLock = s.layoutLock) (work : t.link.work = s.link.work) : BusLaw t := by
  rw [busLaw_iff] at h ⊢
  obtain ⟨before, free⟩ := h
  refine ⟨before.congr ha hb bus lock work, ?_⟩
  rw [bus, queryWaits_congr work, claims_congr work .a ha, claims_congr work .b hb]
  exact free

theorem BusBefore.setPort {s : State} (h : BusBefore s) {p : Port} {u : PortRec}
    (hu : u.isStreaming = (s.port p).isStreaming) : BusBefore (s.setPort p u) := by
  have same (o : Port) : ((s.setPort p u).port o).isStreaming = (s.port o).isStreaming := by
    rw [State.port_setPort]
    split
    · next is => rw [is, hu]
    · rfl
  refine ⟨fun o => ?_, ?_, fun hl => ?_⟩
  · rw [same, State.setPort_bus]
    exact h.streams o
  · rw [State.setPort_bus, queryWaits_congr (congrArg Link.work (State.setPort_link s p u))]
    exact h.query
  · rw [State.setPort_layoutLock] at hl
    rw [anyStreaming_eq_false]
    intro o
    rw [same]
    exact anyStreaming_eq_false.mp (h.lock hl) o

theorem BusLaw.setPort {s : State} (h : BusLaw s) {p : Port} {u : PortRec}
    (hu : u.isStreaming = (s.port p).isStreaming)
    (claim : u.state = .pending .bus → (s.port p).state = .pending .bus) : BusLaw (s.setPort p u) := by
  rw [busLaw_iff] at h ⊢
  obtain ⟨before, free⟩ := h
  refine ⟨before.setPort hu, ?_⟩
  rw [State.setPort_bus, queryWaits_congr (congrArg Link.work (State.setPort_link s p u))]
  intro none
  have fewer (o : Port) (quiet : s.claims o = false) : (s.setPort p u).claims o = false := by
    rw [Bool.eq_false_iff] at quiet ⊢
    intro claims
    rw [State.claims_iff, State.setPort_link, State.port_setPort] at claims
    obtain ⟨pending, work⟩ := claims
    split at pending
    · next is => exact quiet (State.claims_iff.mpr ⟨is ▸ claim pending, work⟩)
    · exact quiet (State.claims_iff.mpr ⟨pending, work⟩)
  obtain ⟨query, a, b⟩ := free none
  exact ⟨query, fewer .a a, fewer .b b⟩

/-- The number of ports that claim the bus. -/
def State.claimCount (s : State) : Nat := (s.claims .a).toNat + (s.claims .b).toNat

theorem examinedPort_unclaimed (s : State) (p : Port) : ¬ (s.examinedPort p).state = .pending .bus := by
  obtain ⟨w, hw, is⟩ | is | ⟨-, -, is⟩ := s.examinedPort_cases p
  · rw [is]
    rintro ⟨⟩
    obtain hw | hw := hw <;> cases hw
  · rw [is]
    nofun
  · rw [is]
    nofun

/-- Each grant to a port ends its claim. -/
theorem State.claimCount_grantPort {s : State} {p : Port} (h : s.claims p = true) :
    (s.grantPort p).claimCount < s.claimCount := by
  have gone : (s.grantPort p).claims p = false := by
    rw [Bool.eq_false_iff]
    intro claims
    rw [State.claims_iff, State.grantPort_port, if_pos rfl] at claims
    exact examinedPort_unclaimed s p claims.1
  have link : (s.grantPort p).link.work = s.link.work := by cases p <;> rfl
  have other (o : Port) (ho : ¬ o = p) : (s.grantPort p).claims o = s.claims o :=
    claims_congr link o (by rw [State.grantPort_port, if_neg ho])
  unfold State.claimCount
  cases p with
  | a => rw [gone, other .b (by decide), h]; simp
  | b => rw [gone, other .a (by decide), h]; simp

theorem BusBefore.grantPort {s : State} (h : BusBefore s) (none : s.bus.owner = .none) (p : Port) :
    BusBefore (s.grantPort p) := by
  have still (o : Port) : (s.port o).isStreaming = false := by
    rw [Bool.eq_false_iff]
    intro streams
    exact BusOwner.noConfusion (none.symm.trans ((h.streams o).mp streams))
  have owner : (s.grantPort p).bus.owner = if (s.examinedPort p).isStreaming = true then .port p else .none := by
    cases p <;> rfl
  have lock : (s.grantPort p).layoutLock = s.layoutLock := by cases p <;> rfl
  refine ⟨fun o => ?_, ?_, ?_⟩
  · rw [owner, State.grantPort_port]
    by_cases ho : o = p
    · subst ho
      rw [if_pos rfl]
      split <;> simp [*]
    · rw [if_neg ho, still o]
      split <;> simp [Ne.symm ho]
  · rw [owner]
    split <;> nofun
  · rw [lock, anyStreaming_eq_false]
    intro locked o
    rw [State.grantPort_port]
    split
    · obtain ⟨w, -, is⟩ | is | ⟨unlocked, -, -⟩ := s.examinedPort_cases p
      · rw [is]
        rfl
      · rw [is]
        rfl
      · exact Bool.noConfusion (unlocked.symm.trans locked)
    · exact still o

/-- The arbiter leaves no claim waiting at a free bus. -/
theorem BusBefore.arbitrate {s : State} (h : BusBefore s) : BusLaw s.arbitrate := by
  have turns (n : Nat) : ∀ {s : State}, s.claimCount < n → BusBefore s → BusLaw (arbitrateFor n s) := by
    induction n with
    | zero => exact fun hc => absurd hc (Nat.not_lt_zero _)
    | succ n ih =>
      intro s hc h
      unfold arbitrateFor
      split
      · next o owned => exact busLaw_iff.mpr ⟨h, fun none => BusOwner.noConfusion (owned.symm.trans none)⟩
      · next owned => exact busLaw_iff.mpr ⟨h, fun none => BusOwner.noConfusion (owned.symm.trans none)⟩
      · next none =>
        split
        · next chosen => exact busLaw_iff.mpr ⟨h, fun _ => State.chosen_none chosen⟩
        · next chosen =>
          refine busLaw_iff.mpr ⟨⟨fun p => ?_, fun _ => State.chosen_query chosen, h.lock⟩, nofun⟩
          refine (h.streams p).trans ?_
          rw [none]
          exact ⟨nofun, nofun⟩
        · next p chosen =>
          have fewer := State.claimCount_grantPort (State.chosen_port chosen).2
          exact ih (by omega) (h.grantPort none p)
  refine turns 3 ?_ h
  unfold State.claimCount
  cases s.claims .a <;> cases s.claims .b <;> decide

/-- The bus is owned, and no port is STREAMING: a port has left STREAMING and has yet to give the bus back. -/
structure BusStale (s : State) : Prop where
  still : s.anyStreaming = false
  owned : ¬ s.bus.owner = .none

theorem BusBefore.giveBack {s : State} (still : s.anyStreaming = false) : BusLaw s.giveBack := by
  refine BusBefore.arbitrate ⟨fun p => ?_, nofun, fun _ => still⟩
  show (s.port p).isStreaming = true ↔ _
  rw [anyStreaming_eq_false.mp still p]
  exact ⟨nofun, nofun⟩

theorem BusStale.setPort {s : State} (h : BusStale s) (p : Port) {u : PortRec} (hu : u.isStreaming = false) :
    BusStale (s.setPort p u) := by
  refine ⟨anyStreaming_eq_false.mpr fun o => ?_, by rw [State.setPort_bus]; exact h.owned⟩
  rw [State.port_setPort]
  split
  · exact hu
  · exact anyStreaming_eq_false.mp h.still o

theorem BusStale.congr {s t : State} (h : BusStale s) (ha : t.portA = s.portA) (hb : t.portB = s.portB)
    (bus : t.bus = s.bus) : BusStale t :=
  ⟨by rw [anyStreaming_congr ha hb]; exact h.still, by rw [bus]; exact h.owned⟩

theorem BusStale.wakeFrom {s : State} (h : BusStale s) (w : Wait) (p : Port) : BusStale (s.wakeFrom w p) := by
  unfold State.wakeFrom State.enterBusWait
  split
  · exact h.setPort p rfl
  · exact h

theorem BusStale.arbitrate {s : State} (h : BusStale s) : BusStale s.arbitrate :=
  (State.arbitrate_owned h.owned).symm ▸ h

theorem Move.busStale {s t : State} (h : Move s t) (hs : BusStale s) : BusStale t := by
  cases h with
  | rest _ h => exact hs.congr (by rw [h]) (by rw [h]) (by rw [h])
  | push | unlock | lock | link | font | freeHold | takeHold => exact hs.congr rfl rfl rfl
  | refCount | due | retire =>
    exact hs.congr (State.setPlane_portA ..) (State.setPlane_portB ..) (State.setPlane_bus ..)
  | release => exact hs.congr (State.setPlane_portA ..) (State.setPlane_portB ..) (State.setPlane_bus ..)
  | port p u hu => exact hs.setPort p (hu.streams.trans (anyStreaming_eq_false.mp hs.still p))
  | claim p u hu => exact (hs.setPort p (PortRec.isStreaming_of_pending hu.claims)).arbitrate
  | wake w => exact ((hs.wakeFrom w .a).wakeFrom w .b).arbitrate

theorem BusBefore.wakeFrom {s : State} (h : BusBefore s) (w : Wait) (p : Port) : BusBefore (s.wakeFrom w p) := by
  unfold State.wakeFrom State.enterBusWait
  split
  · next waits =>
    have pending : (s.port p).state = .pending w := of_decide_eq_true waits
    exact h.setPort ((PortRec.isStreaming_of_pending pending).symm ▸ rfl)
  · exact h

/-- Other work that neither waits for the bus nor brings a claim back. -/
theorem BusLaw.link {s : State} (h : BusLaw s) {l : Link} (before : LeavesBus s.link.work)
    (after : ∀ q, ¬ l.work = some (.query q)) : BusLaw { s with link := l } := by
  rw [busLaw_iff] at h ⊢
  obtain ⟨⟨streams, query, lock⟩, free⟩ := h
  refine ⟨⟨streams, fun owner => ?_, lock⟩, fun none => ⟨?_, ?_, ?_⟩⟩
  · obtain ⟨q, hq⟩ := State.queryWaits_iff.mp (query owner)
    exact absurd hq (before.1 q)
  · exact Bool.eq_false_iff.mpr fun waits => (State.queryWaits_iff.mp waits).elim after
  · obtain ⟨-, a, -⟩ := free none
    rw [Bool.eq_false_iff] at a ⊢
    exact fun claims => a (State.claims_iff.mpr ⟨(State.claims_iff.mp claims).1, before.2⟩)
  · obtain ⟨-, -, b⟩ := free none
    rw [Bool.eq_false_iff] at b ⊢
    exact fun claims => b (State.claims_iff.mpr ⟨(State.claims_iff.mp claims).1, before.2⟩)

theorem BusLaw.before {s : State} (h : BusLaw s) : BusBefore s := (busLaw_iff.mp h).1

theorem BusLaw.locked {s : State} (h : BusLaw s) {v : Bool} (hv : v = true → s.anyStreaming = false) :
    BusLaw { s with layoutLock := v } := by
  obtain ⟨streams, query, -, free⟩ := h
  exact ⟨streams, query, hv, free⟩

theorem Move.busLaw {s t : State} (h : Move s t) (hs : BusLaw s) : BusLaw t := by
  cases h with
  | rest _ h => exact hs.congr (by rw [h]) (by rw [h]) (by rw [h]) (by rw [h]) (by rw [h])
  | push | font | freeHold | takeHold => exact hs.congr rfl rfl rfl rfl rfl
  | unlock => exact hs.locked nofun
  | lock still => exact hs.locked fun _ => still
  | link l before after => exact hs.link before after
  | refCount | due | retire =>
    exact hs.congr (State.setPlane_portA ..) (State.setPlane_portB ..) (State.setPlane_bus ..)
      (State.setPlane_layoutLock ..) (congrArg Link.work (State.setPlane_link ..))
  | release =>
    exact hs.congr (State.setPlane_portA ..) (State.setPlane_portB ..) (State.setPlane_bus ..)
      (State.setPlane_layoutLock ..) (congrArg Link.work (State.setPlane_link ..))
  | port p u hu => exact hs.setPort hu.streams hu.claim
  | claim p u hu =>
    exact (hs.before.setPort ((PortRec.isStreaming_of_pending hu.claims).trans hu.still.symm)).arbitrate
  | wake w => exact ((hs.before.wakeFrom w .a).wakeFrom w .b).arbitrate

theorem Moves.busLaw {s t : State} (h : Moves s t) : BusLaw s → BusLaw t := h.keeps Move.busLaw

theorem Deed.busLaw {s u : State} (h : Deed s u) (hs : BusLaw s) : BusLaw u := by
  cases h with
  | moves _ h => exact h.busLaw hs
  | blank _ hb => exact hb.busLaw
  | planeMade width height depth fill h first left hf hh ha hw =>
    have made : BusLaw (State.setPlane { s with freeList := left } h (newPlaneRecord width height depth first)) :=
      hs.congr (State.setPlane_portA ..) (State.setPlane_portB ..) (State.setPlane_bus ..)
        (State.setPlane_layoutLock ..) (congrArg Link.work (State.setPlane_link ..))
    refine made.link ?_ nofun
    rw [State.setPlane_link]
    exact hw.symm ▸ .none
  | fontMade | fontDropped => exact hs.congr rfl rfl rfl rfl rfl
  | extentMoved x t _ _ h =>
    refine h.busLaw (hs.congr ?_ ?_ ?_ ?_ ?_) <;> rw [s.moveExtent_frame]
  | queryClaimed q =>
    obtain ⟨streams, query, lock, -⟩ := hs
    exact BusBefore.arbitrate ⟨streams, fun _ => rfl, lock⟩
  | queried q id owned =>
    refine BusBefore.giveBack (anyStreaming_eq_false.mpr fun p => ?_)
    obtain same | ⟨-, anew⟩ := s.queryResult_port q id p
    · rw [same, Bool.eq_false_iff]
      exact fun streams => BusOwner.noConfusion (owned.symm.trans ((hs.1 p).mp streams))
    · rw [anew]
      rfl
  | portReleased p hs' quiet =>
    have unbound : BusLaw (s.unbind p) := by
      refine hs.congr ?_ ?_ ?_ ?_ ?_ <;> rw [State.unbind_eq] <;> simp
    have kept : (s.unbind p).port p = s.port p := by
      refine State.port_congr ?_ ?_ p <;> rw [State.unbind_eq] <;> simp
    refine unbound.setPort ?_ nofun
    rw [kept]
    refine (PortRec.isStreaming_eq_false fun set cmd mark streams => ?_).symm
    simp [PortRec.busy, streams] at quiet
  | streamEnded p u order owned hu =>
    have still : (s.setPort p u).anyStreaming = false := by
      rw [anyStreaming_eq_false]
      intro o
      rw [State.port_setPort]
      split
      · exact hu.still
      · next other =>
        rw [Bool.eq_false_iff]
        intro streams
        exact other (BusOwner.port.inj ((hs.1 o).mp streams ▸ owned))
    cases order
    · have stale : BusStale (s.setPort p u) := ⟨still, by rw [State.setPort_bus, owned]; nofun⟩
      exact BusBefore.giveBack ((Moves.recheckHead _).keeps Move.busStale stale).still
    · exact (Moves.recheckHead _).busLaw (BusBefore.giveBack still)

/-- Settles O59: both laws hold after every step, being kept by every deed; the arbiter restores the bus's where a port
claims or gives back, and the examinations of a port's start and of the head keep the holds apart. -/
theorem busAndHoldsKeepTheirLaws : Obligations.BusAndHoldsKeepTheirLaws := by
  unfold Obligations.BusAndHoldsKeepTheirLaws
  intro s t h
  refine ⟨step_keeps_of_deed (fun same hs => hs.congr ?_ ?_ ?_ ?_ same.2) (fun _ hs => hs) Deed.busLaw h,
    step_keeps_of_deed (fun same hs => hs.congr ?_ ?_ ?_) (fun _ hs => hs) Deed.holdLaw h⟩
  all_goals rw [same.1]

end Sys2Proof.Machine
end

section
/-! The laws of the port records and of their bindings (O60). -/

namespace Sys2Proof.Machine

set_option Elab.async false

/-! ## The port records -/

theorem portsLaw_iff {s : State} :
    PortsLaw s ↔ (∀ p, PortLaw (s.port p)) ∧ ∀ q, s.link.work = some (.query q) → q.width % 8 = 0 :=
  ⟨fun ⟨a, b, query⟩ => ⟨fun p => by cases p; exacts [a, b], query⟩, fun ⟨ports, query⟩ => ⟨ports .a, ports .b, query⟩⟩

theorem PortsLaw.congr {s t : State} (h : PortsLaw s) (ha : t.portA = s.portA) (hb : t.portB = s.portB)
    (work : t.link.work = s.link.work) : PortsLaw t := by
  unfold PortsLaw
  rw [ha, hb, work]
  exact h

theorem PortsLaw.setPort {s : State} (h : PortsLaw s) (p : Port) {u : PortRec} (hu : PortLaw (s.port p) → PortLaw u) :
    PortsLaw (s.setPort p u) := by
  rw [portsLaw_iff] at h ⊢
  obtain ⟨ports, query⟩ := h
  refine ⟨fun o => ?_, by rw [State.setPort_link]; exact query⟩
  rw [State.port_setPort]
  split
  · exact hu (ports p)
  · exact ports o

/-- The refresh set built at a grant lies inside the window, and is PARTIAL below the ghost limit alone (R126, R127). -/
theorem PortLaw.buildSet {r : PortRec} (h : PortLaw r) :
    (∀ t ∈ r.buildSet.rects, insideArea t r.width r.height = true) ∧
      (r.buildSet.waveform = .partialWave → r.ghostCount < r.ghostLimit) := by
  obtain ⟨-, ghost, width, -, inside, -⟩ := h
  unfold PortRec.buildSet
  split
  · refine ⟨fun t ht => ?_, nofun⟩
    rw [List.mem_singleton.mp ht, insideArea_iff]
    exact ⟨(Nat.zero_add _).le, (Nat.zero_add _).le⟩
  · next partialWave =>
    refine ⟨fun t ht => ?_, fun _ => ?_⟩
    · obtain ⟨d, hd, rfl⟩ := List.mem_map.mp ht
      have fits := insideArea_iff.mp (inside d hd)
      rw [insideArea_iff]
      simp only [widen]
      omega
    · unfold PortRec.waveform at partialWave
      split at partialWave
      · cases partialWave
      · next below =>
        push Not at below
        obtain ⟨-, -, -, differ⟩ := below
        exact lt_of_le_of_ne ghost differ

theorem PortLaw.waiting {r : PortRec} {w w' : Wait} (h : PortLaw r) (hr : r.state = .pending w)
    (hw : PortState.timesBusy (.pending w) = PortState.timesBusy (.pending w')) :
    PortLaw { r with state := .pending w' } := by
  have busy := h.busyTimer hr
  obtain ⟨-, ghost, width, count, inside, apart, whole, -, manual, -⟩ := h
  exact ⟨nofun, ghost, width, count, inside, apart, whole, nofun, manual, nofun, busy.trans hw⟩

theorem PortLaw.examined {s : State} {p : Port} (h : PortLaw (s.port p)) (hp : (s.port p).state = .pending .bus) :
    PortLaw (s.examinedPort p) := by
  obtain ⟨w, hw, is⟩ | is | ⟨-, -, is⟩ := s.examinedPort_cases p
  · rw [is]
    refine h.waiting hp ?_
    obtain rfl | rfl := hw <;> rfl
  · rw [is]
    obtain ⟨-, ghost, width, count, inside, apart, whole, -, manual, -⟩ := h
    exact ⟨nofun, ghost, width, count, inside, apart, whole, nofun, manual, nofun, rfl⟩
  · rw [is]
    have built := h.buildSet
    have busy := h.busyTimer hp
    obtain ⟨-, ghost, width, -⟩ := h
    refine ⟨nofun, ghost, width, Nat.zero_le _, nofun, .nil, nofun, ?_, fun _ => rfl, nofun, busy⟩
    rintro set mark hs
    cases hs
    exact ⟨built.1, fun partialWave _ => built.2 partialWave⟩

theorem PortsLaw.arbitrate {s : State} (h : PortsLaw s) : PortsLaw s.arbitrate := by
  refine State.arbitrate_keeps (L := PortsLaw) (fun _ h => h) (fun {s p} _ claims h => ?_) h
  refine (h.setPort p fun law => law.examined (State.claims_iff.mp claims).1).congr ?_ ?_ ?_ <;> cases p <;> rfl

theorem PortsLaw.giveBack {s : State} (h : PortsLaw s) : PortsLaw s.giveBack :=
  PortsLaw.arbitrate (s := { s with bus := { s.bus with owner := .none } }) h

theorem PortsLaw.wakeFrom {s : State} (h : PortsLaw s) {w : Wait} (hw : w = .lock ∨ w = .hold) (p : Port) :
    PortsLaw (s.wakeFrom w p) := by
  unfold State.wakeFrom State.enterBusWait
  split
  · next waits =>
    refine h.setPort p fun law => law.waiting (of_decide_eq_true waits) ?_
    obtain rfl | rfl := hw <;> rfl
  · exact h

theorem PortsLaw.link {s : State} (h : PortsLaw s) {l : Link} (after : ∀ q, ¬ l.work = some (.query q)) :
    PortsLaw { s with link := l } := by
  obtain ⟨a, b, -⟩ := h
  exact ⟨a, b, fun q hq => absurd hq (after q)⟩

theorem Move.portsLaw {s t : State} (h : Move s t) (hs : PortsLaw s) : PortsLaw t := by
  cases h with
  | rest _ h => exact hs.congr (by rw [h]) (by rw [h]) (by rw [h])
  | push | unlock | lock | font | freeHold | takeHold => exact hs
  | link l before after => exact hs.link after
  | refCount | due | retire =>
    exact hs.congr (State.setPlane_portA ..) (State.setPlane_portB ..) (congrArg Link.work (State.setPlane_link ..))
  | release =>
    exact hs.congr (State.setPlane_portA ..) (State.setPlane_portB ..) (congrArg Link.work (State.setPlane_link ..))
  | port p u hu => exact hs.setPort p hu.law
  | claim p u hu => exact (hs.setPort p hu.law).arbitrate
  | wake w hw => exact ((hs.wakeFrom hw .a).wakeFrom hw .b).arbitrate

theorem Moves.portsLaw {s t : State} (h : Moves s t) : PortsLaw s → PortsLaw t := h.keeps Move.portsLaw

theorem panelRangesOk_width {q : PanelRequest} (h : panelRangesOk q = true) : q.width % 8 = 0 := by
  simp only [panelRangesOk, Bool.and_eq_true, decide_eq_true_eq] at h
  obtain ⟨⟨⟨⟨⟨⟨⟨⟨⟨⟨-, -⟩, width⟩, -⟩, -⟩, -⟩, -⟩, -⟩, -⟩, -⟩, -⟩ := h
  exact width

theorem configuredPort_law {q : PanelRequest} (id : Nat) (hq : q.width % 8 = 0) : PortLaw (configuredPort q id) := by
  refine ⟨nofun, Nat.le_refl _, hq, Nat.zero_le _, nofun, .nil, fun _ => rfl, nofun, fun manual => ?_, nofun, rfl⟩
  have mode : q.mode = .manual := manual
  simp only [configuredPort, mode]

theorem State.queryResult_work (s : State) (q : PanelRequest) (id : Byte) : (s.queryResult q id).link.work = none := by
  unfold State.queryResult
  split <;> rfl

theorem Deed.portsLaw {s u : State} (h : Deed s u) (hs : PortsLaw s) : PortsLaw u := by
  cases h with
  | moves _ h => exact h.portsLaw hs
  | blank _ hb => exact hb.portsLaw
  | planeMade width height depth fill h first left =>
    have made : PortsLaw (State.setPlane { s with freeList := left } h (newPlaneRecord width height depth first)) :=
      hs.congr (State.setPlane_portA ..) (State.setPlane_portB ..) (congrArg Link.work (State.setPlane_link ..))
    exact made.link nofun
  | fontMade | fontDropped => exact hs
  | extentMoved x t _ _ h =>
    refine h.portsLaw (hs.congr ?_ ?_ ?_) <;> rw [s.moveExtent_frame]
  | queryClaimed q hr =>
    obtain ⟨a, b, -⟩ := hs
    refine PortsLaw.arbitrate ⟨a, b, fun q' hq => ?_⟩
    cases hq
    exact panelRangesOk_width hr
  | queried q id owned hw =>
    obtain ⟨ports, query⟩ := portsLaw_iff.mp hs
    refine PortsLaw.giveBack (portsLaw_iff.mpr ⟨fun p => ?_, ?_⟩)
    · obtain same | ⟨-, anew⟩ := s.queryResult_port q id p
      · exact same ▸ ports p
      · exact anew ▸ configuredPort_law _ (query q hw)
    · rw [State.queryResult_work]
      nofun
  | portReleased p =>
    have unbound : PortsLaw (s.unbind p) := by
      refine hs.congr ?_ ?_ ?_ <;> rw [State.unbind_eq] <;> simp
    exact unbound.setPort p fun _ => portLaw_unconfiguredPort
  | streamEnded p u order owned hu =>
    have ended : PortsLaw (s.setPort p u) := hs.setPort p hu.law
    cases order
    · exact ((Moves.recheckHead _).portsLaw ended).giveBack
    · exact (Moves.recheckHead _).portsLaw ended.giveBack

/-! ## The bindings -/

/-- What a port's record and the plane it names say of their binding (R9, R105). -/
def PortRec.boundIn (s : State) (p : Port) (r : PortRec) : Prop :=
  1 ≤ r.boundPlane ∧ r.boundPlane ≤ 24 ∧ (s.plane r.boundPlane).state = .live ∧
    (s.plane r.boundPlane).bound p = true ∧
    (s.plane r.boundPlane).windowFits r.width r.height r.depth r.ox r.oy

/-- The laws of the bindings by their parts. -/
structure Bindings (s : State) : Prop where
  configured : ∀ p, ¬ (s.port p).state = .unconfigured → PortRec.boundIn s p (s.port p)
  bound : ∀ h p, (s.plane h).bound p = true → ¬ (s.port p).state = .unconfigured ∧ (s.port p).boundPlane = h
  free : ∀ h, (s.plane h).state = .free → s.plane h = freePlaneRecord
  due : ∀ h, (s.plane h).releaseDue = true → (s.plane h).state = .retiring
  unconfigured : ∀ p, (s.port p).state = .unconfigured → s.port p = unconfiguredPort
  query : ∀ q, s.link.work = some (.query q) →
    1 ≤ q.handle ∧ q.handle ≤ 24 ∧ (s.plane q.handle).state = .live ∧
      (s.plane q.handle).windowFits q.width q.height q.depth q.ox q.oy

theorem bindingLaw_iff {s : State} : BindingLaw s ↔ Bindings s :=
  ⟨fun ⟨a, b, c, d, e, f⟩ => ⟨a, b, c, d, e, f⟩, fun ⟨a, b, c, d, e, f⟩ => ⟨a, b, c, d, e, f⟩⟩

theorem Bindings.congr {s t : State} (h : Bindings s) (planes : t.planes = s.planes) (ha : t.portA = s.portA)
    (hb : t.portB = s.portB) (work : t.link.work = s.link.work) : Bindings t := by
  have plane := State.plane_congr planes
  have port := State.port_congr ha hb
  obtain ⟨configured, bound, free, due, unconfigured, query⟩ := h
  refine ⟨?_, ?_, ?_, ?_, ?_, ?_⟩
  · intro p
    unfold PortRec.boundIn
    rw [port, plane]
    exact configured p
  · intro h p
    rw [port, plane]
    exact bound h p
  · intro h
    rw [plane]
    exact free h
  · intro h
    rw [plane]
    exact due h
  · intro p
    rw [port]
    exact unconfigured p
  · intro q
    rw [work, plane]
    exact query q

/-- A port's record with the same window and plane. -/
theorem Bindings.setPort {s : State} (h : Bindings s) {p : Port} {u : PortRec} (w : SameWindow (s.port p) u)
    (configured : ¬ (s.port p).state = .unconfigured → ¬ u.state = .unconfigured)
    (unconfigured : s.port p = unconfiguredPort → u = s.port p) : Bindings (s.setPort p u) := by
  have plane : ∀ k, (s.setPort p u).plane k = s.plane k := State.plane_congr (State.setPort_planes s p u)
  obtain ⟨plane', width, height, depth, ox, oy⟩ := w
  refine ⟨fun o ho => ?_, fun k o ho => ?_, fun k => ?_, fun k => ?_, fun o ho => ?_, fun q => ?_⟩
  · unfold PortRec.boundIn
    rw [State.port_setPort] at ho ⊢
    rw [plane]
    split
    · next is =>
      subst is
      rw [if_pos rfl] at ho
      have old : ¬ (s.port o).state = .unconfigured := fun hs => by
        rw [unconfigured (h.unconfigured o hs), hs] at ho
        exact ho rfl
      rw [plane', width, height, depth, ox, oy]
      exact h.configured o old
    · next other =>
      rw [if_neg other] at ho
      exact h.configured o ho
  · rw [plane] at ho
    obtain ⟨is, at_⟩ := h.bound k o ho
    rw [State.port_setPort]
    split
    · next same =>
      subst same
      exact ⟨configured is, plane'.trans at_⟩
    · exact ⟨is, at_⟩
  · rw [plane]
    exact h.free k
  · rw [plane]
    exact h.due k
  · rw [State.port_setPort] at ho ⊢
    split
    · next same =>
      rw [if_pos same] at ho
      have old : (s.port p).state = .unconfigured := Classical.not_not.mp fun hs => configured hs ho
      rw [unconfigured (h.unconfigured p old), h.unconfigured p old]
    · next other =>
      rw [if_neg other] at ho
      exact h.unconfigured o ho
  · rw [State.setPort_link, plane]
    exact h.query q

/-- A plane's record that is bound as it was, with the same state or window where it is LIVE. -/
theorem Bindings.setPlane {s : State} (h : Bindings s) (k : Nat) {p : Plane} (bound : ∀ o, p.bound o = (s.plane k).bound o)
    (live : (s.plane k).state = .live →
      (∃ o, (s.plane k).bound o = true) ∨ (∃ q, s.link.work = some (.query q) ∧ q.handle = k) →
      p.state = .live ∧ p.depth = (s.plane k).depth ∧ p.width = (s.plane k).width ∧ p.height = (s.plane k).height)
    (free : p.state = .free → p = freePlaneRecord) (due : p.releaseDue = true → p.state = .retiring) :
    Bindings (s.setPlane k p) := by
  by_cases hk : 1 ≤ k ∧ k ≤ 24
  swap
  · have plane : ∀ j, (s.setPlane k p).plane j = s.plane j := fun j => s.plane_setPlane_outside j k p (by omega)
    have port : ∀ o, (s.setPlane k p).port o = s.port o :=
      State.port_congr (State.setPlane_portA ..) (State.setPlane_portB ..)
    obtain ⟨configured, bound, free, due, unconfigured, query⟩ := h
    refine ⟨?_, ?_, ?_, ?_, ?_, ?_⟩ <;>
      simpa only [PortRec.boundIn, plane, port, State.setPlane_link]
  have plane (j : Nat) : (s.setPlane k p).plane j = if j = k then p else s.plane j := s.plane_setPlane j k p hk.1 hk.2
  have port : ∀ o, (s.setPlane k p).port o = s.port o :=
    State.port_congr (State.setPlane_portA ..) (State.setPlane_portB ..)
  refine ⟨fun o => ?_, fun j o => ?_, fun j => ?_, fun j => ?_, fun o => ?_, fun q => ?_⟩
  · rw [port]
    intro ho
    have old := h.configured o ho
    unfold PortRec.boundIn at old ⊢
    rw [plane]
    split
    · next is =>
      rw [is] at old ⊢
      obtain ⟨low, high, wasLive, wasBound, fits⟩ := old
      obtain ⟨isLive, depth, width, height⟩ := live wasLive (.inl ⟨o, wasBound⟩)
      refine ⟨low, high, isLive, (bound o).trans wasBound, ?_⟩
      unfold Plane.windowFits at fits ⊢
      rw [depth, width, height]
      exact fits
    · exact old
  · rw [plane, port]
    split
    · next is =>
      rw [bound, is]
      exact h.bound k o
    · exact h.bound j o
  · rw [plane]
    split
    · exact free
    · exact h.free j
  · rw [plane]
    split
    · exact due
    · exact h.due j
  · rw [port]
    exact h.unconfigured o
  · rw [State.setPlane_link, plane]
    intro hq
    obtain ⟨low, high, wasLive, fits⟩ := h.query q hq
    split
    · next is =>
      rw [is] at wasLive fits
      obtain ⟨isLive, depth, width, height⟩ := live wasLive (.inr ⟨q, hq, is⟩)
      refine ⟨low, high, isLive, ?_⟩
      unfold Plane.windowFits at fits ⊢
      rw [depth, width, height]
      exact fits
    · exact ⟨low, high, wasLive, fits⟩

theorem Plane.bound_eq_false {p : Plane} (h : ¬ (p.boundA = true ∨ p.boundB = true)) (o : Port) : p.bound o = false := by
  push Not at h
  cases o
  · exact Bool.eq_false_iff.mpr h.1
  · exact Bool.eq_false_iff.mpr h.2

/-- No port is bound to a plane that is not LIVE. -/
theorem Bindings.unbound {s : State} (h : Bindings s) {k : Nat} (hk : ¬ (s.plane k).state = .live) (o : Port) :
    (s.plane k).bound o = false := by
  rw [Bool.eq_false_iff]
  intro bound
  obtain ⟨configured, is⟩ := h.bound k o bound
  obtain ⟨-, -, live, -⟩ := h.configured o configured
  exact hk (is ▸ live)

theorem Bindings.releasable {s : State} (h : Bindings s) {k : Nat} (hr : s.Releasable k) :
    (∀ o, (s.plane k).bound o = false) ∧
      ((s.plane k).state = .live → s.link.work = none) := by
  have gone (retiring : (s.plane k).state = .retiring) :
      (∀ o, (s.plane k).bound o = false) ∧ ((s.plane k).state = .live → s.link.work = none) :=
    ⟨h.unbound (by rw [retiring]; nofun), fun live => PlaneState.noConfusion (live.symm.trans retiring)⟩
  obtain retiring | due | ⟨-, unbound, work⟩ := hr
  · exact gone retiring
  · exact gone (h.due k due)
  · exact ⟨Plane.bound_eq_false unbound, fun _ => work⟩

/-- The record of a plane that no port is bound to, and that no driver query waits for. -/
theorem Bindings.setUnbound {s : State} (h : Bindings s) (k : Nat) {p : Plane}
    (unbound : ∀ o, (s.plane k).bound o = false) (work : (s.plane k).state = .live → s.link.work = none)
    (unbound' : ∀ o, p.bound o = false) (free : p.state = .free → p = freePlaneRecord)
    (due : p.releaseDue = true → p.state = .retiring) : Bindings (s.setPlane k p) := by
  refine h.setPlane k (fun o => (unbound' o).trans (unbound o).symm) ?_ free due
  rintro live (⟨o, bound⟩ | ⟨q, hq, -⟩)
  · exact Bool.noConfusion ((unbound o).symm.trans bound)
  · exact Option.noConfusion rfl (heq_of_eq ((work live).symm.trans hq))

theorem PortRec.examined_window (s : State) (p : Port) :
    SameWindow (s.port p) (s.examinedPort p) ∧ ¬ (s.examinedPort p).state = .unconfigured := by
  obtain ⟨w, -, is⟩ | is | ⟨-, -, is⟩ := s.examinedPort_cases p <;>
    rw [is] <;> exact ⟨⟨rfl, rfl, rfl, rfl, rfl, rfl⟩, nofun⟩

theorem Bindings.arbitrate {s : State} (h : Bindings s) : Bindings s.arbitrate := by
  refine State.arbitrate_keeps (L := Bindings) (fun _ h => h.congr rfl rfl rfl rfl) (fun {s p} _ claims h => ?_) h
  have pending := (State.claims_iff.mp claims).1
  have granted : Bindings (s.setPort p (s.examinedPort p)) := by
    refine h.setPort (PortRec.examined_window s p).1 (fun _ => (PortRec.examined_window s p).2) fun hu => ?_
    rw [hu] at pending
    cases pending
  refine granted.congr ?_ ?_ ?_ ?_ <;> cases p <;> rfl

theorem Bindings.giveBack {s : State} (h : Bindings s) : Bindings s.giveBack :=
  Bindings.arbitrate (s := { s with bus := { s.bus with owner := .none } }) (h.congr rfl rfl rfl rfl)

theorem Bindings.wakeFrom {s : State} (h : Bindings s) (w : Wait) (p : Port) : Bindings (s.wakeFrom w p) := by
  unfold State.wakeFrom State.enterBusWait
  split
  · next waits =>
    refine h.setPort ⟨rfl, rfl, rfl, rfl, rfl, rfl⟩ (fun _ => nofun) fun hu => ?_
    rw [hu] at waits
    cases waits
  · exact h

theorem Bindings.link {s : State} (h : Bindings s) {l : Link} (after : ∀ q, ¬ l.work = some (.query q)) :
    Bindings { s with link := l } := by
  obtain ⟨configured, bound, free, due, unconfigured, -⟩ := h
  exact ⟨configured, bound, free, due, unconfigured, fun q hq => absurd hq (after q)⟩

theorem Bindings.releasePlane {s : State} (h : Bindings s) {k : Nat} (hr : s.Releasable k) :
    Bindings (s.releasePlane k) := by
  obtain ⟨unbound, work⟩ := h.releasable hr
  have returned : Bindings { s with freeList := releaseExtent s.freeList (s.plane k).extent } := h.congr rfl rfl rfl rfl
  exact returned.setUnbound k unbound work (fun o => by cases o <;> rfl) (fun _ => rfl) nofun

theorem Move.bindings {s t : State} (h : Move s t) (hs : Bindings s) : Bindings t := by
  cases h with
  | rest _ h => exact hs.congr (by rw [h]) (by rw [h]) (by rw [h]) (by rw [h])
  | push | unlock | lock | font | freeHold | takeHold => exact hs.congr rfl rfl rfl rfl
  | link l before after => exact hs.link after
  | refCount h n hn =>
    refine hs.setPlane h (fun o => by cases o <;> rfl) (fun live _ => ⟨live, rfl, rfl, rfl⟩) (fun free => ?_) (hs.due h)
    have blank := hs.free h free
    have none : n ≤ 0 := by simpa [blank, freePlaneRecord] using hn free
    rw [Nat.le_zero.mp none, blank]
    rfl
  | due h retiring =>
    refine hs.setPlane h (fun o => by cases o <;> rfl) (fun live => ?_) (fun free => ?_) fun _ => retiring
    · exact PlaneState.noConfusion (live.symm.trans retiring)
    · exact PlaneState.noConfusion (retiring.symm.trans free)
  | retire h live unbound work =>
    have unbound := Plane.bound_eq_false unbound
    exact hs.setUnbound h unbound (fun _ => work) (fun o => by cases o; exacts [unbound .a, unbound .b]) nofun
      fun _ => rfl
  | release h hr => exact hs.releasePlane hr
  | port p u hu => exact hs.setPort hu.window hu.configured hu.unconfigured
  | claim p u hu =>
    refine Bindings.arbitrate (hs.setPort hu.window (fun _ hu' => ?_) fun is => ?_)
    · exact PortState.noConfusion (hu.claims.symm.trans hu')
    · exact absurd (is ▸ rfl) hu.configured
  | wake w => exact ((hs.wakeFrom w .a).wakeFrom w .b).arbitrate

theorem Moves.bindings {s t : State} (h : Moves s t) : Bindings s → Bindings t := h.keeps Move.bindings

end Sys2Proof.Machine
end

section
/-! The bindings under the requests of the ports (O60). -/

namespace Sys2Proof.Machine

set_option Elab.async false

theorem State.bound_unbind (s : State) (p : Port) (h : Nat) (o : Port) :
    ((s.unbind p).plane h).bound o = true ↔
      (s.plane h).bound o = true ∧ ¬ (o = p ∧ h = (s.port p).boundPlane) := by
  by_cases hh : 1 ≤ h ∧ h ≤ 24
  · rw [s.plane_unbind p hh.1 hh.2]
    cases o <;> cases p <;> simp [Plane.bound, and_comm]
  · rw [State.plane_outside _ h (by omega), State.plane_outside _ h (by omega)]
    cases o <;> simp [Plane.bound, freePlaneRecord]

/-- What leaving the bindings leaves of a plane. -/
theorem State.planeField_unbind {α : Type} (f : Plane → α) (hf : ∀ pl p v, f (pl.setBound p v) = f pl) (s : State)
    (p : Port) (h : Nat) : f ((s.unbind p).plane h) = f (s.plane h) := by
  rw [State.unbind_eq]
  exact s.planeField_setPlane f _ (hf _ p false) h

theorem freePlaneRecord_setBound_false (p : Port) : freePlaneRecord.setBound p false = freePlaneRecord := by
  cases p <;> rfl

/-- A port that leaves its plane's bindings and becomes UNCONFIGURED. -/
theorem Bindings.unbindPort {s : State} (h : Bindings s) (p : Port) :
    Bindings ((s.unbind p).setPort p unconfiguredPort) := by
  have plane (k : Nat) : ((s.unbind p).setPort p unconfiguredPort).plane k = (s.unbind p).plane k :=
    State.plane_congr (State.setPort_planes ..) k
  have port (o : Port) :
      ((s.unbind p).setPort p unconfiguredPort).port o = if o = p then unconfiguredPort else s.port o := by
    rw [State.port_setPort, State.port_unbind]
  have state (k : Nat) : ((s.unbind p).plane k).state = (s.plane k).state :=
    s.planeField_unbind Plane.state (fun _ p _ => by cases p <;> rfl) p k
  have fits (k width height depth ox oy : Nat) : ((s.unbind p).plane k).windowFits width height depth ox oy =
      (s.plane k).windowFits width height depth ox oy :=
    s.planeField_unbind (fun pl => pl.windowFits width height depth ox oy) (fun _ p _ => by cases p <;> rfl) p k
  have link : ((s.unbind p).setPort p unconfiguredPort).link = s.link := by
    rw [State.setPort_link, State.unbind_link]
  refine ⟨fun o ho => ?_, fun k o ho => ?_, fun k hk => ?_, fun k hk => ?_, fun o ho => ?_, fun q hq => ?_⟩
  · rw [port] at ho ⊢
    split at ho
    · exact absurd rfl ho
    · next other =>
      obtain ⟨low, high, live, bound, window⟩ := h.configured o ho
      rw [if_neg other]
      refine ⟨low, high, ?_, ?_, ?_⟩ <;> rw [plane]
      · exact (state _).trans live
      · exact (s.bound_unbind p _ o).mpr ⟨bound, fun ⟨same, _⟩ => other same⟩
      · exact (fits ..).symm ▸ window
  · rw [plane, s.bound_unbind] at ho
    obtain ⟨bound, left⟩ := ho
    obtain ⟨configured, is⟩ := h.bound k o bound
    have other : ¬ o = p := fun same => left ⟨same, by rw [← same, is]⟩
    rw [port, if_neg other]
    exact ⟨configured, is⟩
  · rw [plane] at hk ⊢
    rw [state] at hk
    have blank := h.free k hk
    by_cases hk' : 1 ≤ k ∧ k ≤ 24
    · rw [s.plane_unbind p hk'.1 hk'.2, blank]
      simp [freePlaneRecord]
    · exact State.plane_outside _ k (by omega)
  · rw [plane] at hk ⊢
    rw [state]
    rw [s.planeField_unbind Plane.releaseDue (fun _ p _ => by cases p <;> rfl)] at hk
    exact h.due k hk
  · rw [port] at ho ⊢
    split
    · rfl
    · next other =>
      rw [if_neg other] at ho
      exact h.unconfigured o ho
  · rw [link] at hq
    obtain ⟨low, high, live, window⟩ := h.query q hq
    refine ⟨low, high, ?_, ?_⟩ <;> rw [plane]
    · exact (state _).trans live
    · exact (fits ..).symm ▸ window

theorem Plane.bound_setBound (pl : Plane) (p o : Port) (v : Bool) :
    (pl.setBound p v).bound o = if o = p then v else pl.bound o := by
  cases p <;> cases o <;> rfl

/-- An UNCONFIGURED port that joins the bindings of a LIVE plane that holds its window. -/
theorem Bindings.bindPort {s : State} (h : Bindings s) {p : Port} (hp : (s.port p).state = .unconfigured) {u : PortRec}
    (hu : ¬ u.state = .unconfigured) (low : 1 ≤ u.boundPlane) (high : u.boundPlane ≤ 24)
    (live : (s.plane u.boundPlane).state = .live)
    (window : (s.plane u.boundPlane).windowFits u.width u.height u.depth u.ox u.oy) :
    Bindings ((s.bind p u.boundPlane).setPort p u) := by
  have planes : ((s.bind p u.boundPlane).setPort p u).planes = (s.bind p u.boundPlane).planes :=
    State.setPort_planes ..
  have field {α : Type} (f : Plane → α) (hf : ∀ pl p v, f (Plane.setBound pl p v) = f pl) (k : Nat) :
      f (((s.bind p u.boundPlane).setPort p u).plane k) = f (s.plane k) := by
    rw [State.plane_congr planes]
    exact s.planeField_setPlane f _ (hf _ p true) k
  have state (k : Nat) := field Plane.state (fun _ p _ => by cases p <;> rfl) k
  have fits (k width height depth ox oy : Nat) :=
    field (fun pl => pl.windowFits width height depth ox oy) (fun _ p _ => by cases p <;> rfl) k
  have bound (k : Nat) (o : Port) : (((s.bind p u.boundPlane).setPort p u).plane k).bound o =
      if k = u.boundPlane ∧ o = p then true else (s.plane k).bound o := by
    rw [State.plane_congr planes, State.bind, s.plane_setPlane k u.boundPlane _ low high]
    split
    · next is =>
      rw [Plane.bound_setBound, is]
      simp only [true_and]
    · next other => rw [if_neg fun both => other both.1]
  have port (o : Port) : ((s.bind p u.boundPlane).setPort p u).port o = if o = p then u else s.port o := by
    rw [State.port_setPort]
    split
    · rfl
    · exact State.port_congr (State.setPlane_portA ..) (State.setPlane_portB ..) o
  have link : ((s.bind p u.boundPlane).setPort p u).link = s.link := by
    rw [State.setPort_link]
    exact State.setPlane_link ..
  refine ⟨fun o ho => ?_, fun k o ho => ?_, fun k hk => ?_, fun k hk => ?_, fun o ho => ?_, fun q hq => ?_⟩
  · rw [port] at ho ⊢
    split
    · next is =>
      refine ⟨low, high, (state _).trans live, ?_, (fits ..).symm ▸ window⟩
      rw [bound, if_pos ⟨rfl, is⟩]
    · next other =>
      rw [if_neg other] at ho
      obtain ⟨low', high', live', bound', window'⟩ := h.configured o ho
      refine ⟨low', high', (state _).trans live', ?_, (fits ..).symm ▸ window'⟩
      rw [bound, if_neg fun both => other both.2]
      exact bound'
  · rw [bound] at ho
    rw [port]
    split at ho
    · next both => exact ⟨by rw [if_pos both.2]; exact hu, by rw [if_pos both.2]; exact both.1.symm⟩
    · obtain ⟨configured, is⟩ := h.bound k o ho
      have other : ¬ o = p := fun same => configured (same ▸ hp)
      rw [if_neg other]
      exact ⟨configured, is⟩
  · rw [state] at hk
    have other : ¬ k = u.boundPlane := fun is => PlaneState.noConfusion (hk.symm.trans (is ▸ live))
    rw [State.plane_congr planes, State.bind, s.plane_setPlane k u.boundPlane _ low high, if_neg other]
    exact h.free k hk
  · rw [state]
    rw [field Plane.releaseDue (fun _ p _ => by cases p <;> rfl)] at hk
    exact h.due k hk
  · rw [port] at ho ⊢
    split
    · next is =>
      rw [if_pos is] at ho
      exact absurd ho hu
    · next other =>
      rw [if_neg other] at ho
      exact h.unconfigured o ho
  · rw [link] at hq
    obtain ⟨low', high', live', window'⟩ := h.query q hq
    exact ⟨low', high', (state _).trans live', (fits ..).symm ▸ window'⟩

/-- A port's release from one plane and its binding to another, in two steps. -/
theorem State.configure_eq (s : State) (q : PanelRequest) (id : Nat) :
    s.configure q id =
      (((s.unbind q.port).setPort q.port unconfiguredPort).bind q.port q.handle).setPort q.port
        (configuredPort q id) := by
  unfold State.configure State.bind State.setPlane State.plane
  cases q.port <;> (repeat' split) <;> rfl

theorem Bindings.configure {s : State} (h : Bindings s) {q : PanelRequest} (hq : s.link.work = some (.query q)) (id : Nat) :
    Bindings (s.configure q id) := by
  rw [State.configure_eq]
  have left := h.unbindPort q.port
  have work : ((s.unbind q.port).setPort q.port unconfiguredPort).link.work = some (.query q) := by
    rw [State.setPort_link, State.unbind_link, hq]
  obtain ⟨low, high, live, window⟩ := left.query q work
  refine left.bindPort (u := configuredPort q id) ?_ nofun low high live window
  rw [State.port_setPort, if_pos rfl]
  rfl

/-! ## The store's extents in order -/

theorem mem_insertByFirst {x y : OwnedExtent} {l : List OwnedExtent} : y ∈ insertByFirst x l ↔ y = x ∨ y ∈ l := by
  induction l with
  | nil => simp [insertByFirst]
  | cons e l ih =>
    unfold insertByFirst
    split
    · exact List.mem_cons
    · rw [List.mem_cons, ih, List.mem_cons]
      exact or_left_comm

theorem mem_allocatedInOrder {s : State} {x : OwnedExtent} : x ∈ s.allocatedInOrder ↔ x ∈ s.allocated := by
  unfold State.allocatedInOrder
  generalize s.allocated = l
  induction l with
  | nil => exact Iff.rfl
  | cons e l ih => rw [List.foldr_cons, mem_insertByFirst, ih, List.mem_cons]

theorem firstToMove_mem {l : List OwnedExtent} {a t : Nat} {x : OwnedExtent} (h : firstToMove a l = some (x, t)) :
    x ∈ l := by
  induction l generalizing a with
  | nil => cases h
  | cons e l ih =>
    unfold firstToMove at h
    split at h
    · cases h
      exact List.mem_cons_self
    · exact List.mem_cons_of_mem _ (ih h)

theorem mem_allHandles {h : Nat} : h ∈ allHandles ↔ 1 ≤ h ∧ h ≤ 24 := by
  simp only [allHandles, Config.maxHandle, List.mem_range'_1]
  omega

theorem mem_allFontIds {i : Nat} : i ∈ allFontIds ↔ i ≤ 3 := by
  simp only [allFontIds, List.mem_range]
  omega

/-- Who holds an extent (R3, R19). -/
theorem mem_allocated {s : State} {x : OwnedExtent} :
    x ∈ s.allocated ↔
      (∃ h, (1 ≤ h ∧ h ≤ 24) ∧ ¬ (s.plane h).state = .free ∧ x = ⟨.plane h, (s.plane h).extent⟩) ∨
        ∃ i, i ≤ 3 ∧ (s.font i).state = .defined ∧ x = ⟨.font i, (s.font i).extent⟩ := by
  simp only [State.allocated, List.mem_append, List.mem_map, List.mem_filter, decide_eq_true_eq, mem_allHandles,
    mem_allFontIds, and_assoc, eq_comm (a := x)]

theorem Bindings.moveExtent {s : State} (h : Bindings s) {x : OwnedExtent} {t : Nat} (hm : s.nextMove = some (x, t)) :
    Bindings (s.moveExtent x t) := by
  have copied : Bindings
      { s.copyBytes (Config.blockBytes * x.extent.first) (Config.blockBytes * t) (Config.blockBytes * x.extent.count) with
        freeList := freeAfterMove s.freeList x.extent.first x.extent.count t } := h.congr rfl rfl rfl rfl
  obtain ⟨k, -, used, is⟩ | ⟨i, -, -, is⟩ := mem_allocated.mp (mem_allocatedInOrder.mp (firstToMove_mem hm))
  · have owner : x.owner = .plane k := by rw [is]
    unfold State.moveExtent State.relocate
    rw [owner]
    exact copied.setPlane k (fun o => by cases o <;> rfl) (fun live _ => ⟨live, rfl, rfl, rfl⟩)
      (fun free => absurd free used) (h.due k)
  · have owner : x.owner = .font i := by rw [is]
    unfold State.moveExtent State.relocate
    rw [owner]
    exact copied.congr rfl rfl rfl rfl

theorem State.panelStatus_none {s : State} {q : PanelRequest} (h : s.panelStatus q = none) :
    (s.port q.port).busy = false ∧ (s.plane q.handle).state = .live ∧
      (s.plane q.handle).windowFits q.width q.height q.depth q.ox q.oy := by
  unfold State.panelStatus at h
  dsimp only at h
  split at h
  · cases h
  · next quiet =>
    split at h
    · cases h
    · next notFree =>
      split at h
      · cases h
      · next notRetiring =>
        split at h
        · cases h
        · next depth =>
          split at h
          · cases h
          · next inside =>
            refine ⟨Bool.eq_false_iff.mpr quiet, ?_, Classical.not_not.mp depth, Classical.not_not.mp inside⟩
            cases hs : (s.plane q.handle).state with
            | free => exact absurd hs notFree
            | live => rfl
            | retiring => exact absurd hs notRetiring

/-- A handle whose record is not FREE is one of the table's. -/
theorem State.handle_of_used {s : State} {h : Nat} (hs : ¬ (s.plane h).state = .free) : 1 ≤ h ∧ h ≤ 24 := by
  by_contra out
  rw [s.plane_outside h (by omega)] at hs
  exact hs rfl

theorem Deed.bindings {s u : State} (h : Deed s u) (hs : Bindings s) : Bindings u := by
  cases h with
  | moves _ h => exact h.bindings hs
  | blank _ hb => exact bindingLaw_iff.mp hb.bindingLaw
  | planeMade width height depth fill h first left hf hh ha hw =>
    have free := (State.freeHandle_eq_some.mp hh).1
    have left' : Bindings { s with freeList := left } := hs.congr rfl rfl rfl rfl
    have made : Bindings (State.setPlane { s with freeList := left } h (newPlaneRecord width height depth first)) := by
      refine left'.setUnbound h (hs.unbound (by rw [free]; nofun)) (fun live => ?_) (fun o => by cases o <;> rfl) nofun
        nofun
      exact PlaneState.noConfusion (free.symm.trans live)
    exact made.link nofun
  | fontMade | fontDropped => exact hs.congr rfl rfl rfl rfl
  | extentMoved x t _ hm h => exact h.bindings (hs.moveExtent hm)
  | queryClaimed q hr hq =>
    obtain ⟨-, live, window⟩ := State.panelStatus_none hq
    have range := State.handle_of_used (s := s) (h := q.handle) (by rw [live]; nofun)
    obtain ⟨configured, bound, free, due, unconfigured, -⟩ := hs
    refine Bindings.arbitrate ⟨configured, bound, free, due, unconfigured, fun q' hq' => ?_⟩
    cases hq'
    exact ⟨range.1, range.2, live, window⟩
  | queried q id owned hw =>
    refine Bindings.giveBack ?_
    unfold State.queryResult
    split
    · exact (hs.configure hw _).link nofun
    · exact hs.link nofun
  | portReleased p => exact hs.unbindPort p
  | streamEnded p u order owned hu =>
    have ended : Bindings (s.setPort p u) := by
      refine hs.setPort hu.window (fun _ => hu.configured) fun is => ?_
      have streamed := hu.streamed
      rw [is] at streamed
      cases streamed
    cases order
    · exact ((Moves.recheckHead _).bindings ended).giveBack
    · exact (Moves.recheckHead _).bindings ended.giveBack

theorem BindingLaw.step {s t : State} (h : step s = .next t) (hs : BindingLaw s) : BindingLaw t := by
  rw [bindingLaw_iff] at hs ⊢
  refine step_keeps_of_deed (fun same hs => hs.congr ?_ ?_ ?_ same.2) (fun _ hs => hs.congr rfl rfl rfl rfl)
    Deed.bindings h hs
  all_goals rw [same.1]

theorem PortsLaw.step {s t : State} (h : step s = .next t) (hs : PortsLaw s) : PortsLaw t := by
  refine step_keeps_of_deed (fun same hs => hs.congr ?_ ?_ same.2) (fun _ hs => hs) Deed.portsLaw h hs
  all_goals rw [same.1]

/-- Settles O60: both laws are kept by every deed. -/
theorem portsKeepTheirLaws : Obligations.PortsKeepTheirLaws := by
  unfold Obligations.PortsKeepTheirLaws
  exact fun s t h => ⟨PortsLaw.step h, BindingLaw.step h⟩

end Sys2Proof.Machine
end

section
/-! The free extent list and the accounting of the store (O58). -/

namespace Sys2Proof.Machine

set_option Elab.async false

/-! ## The free extent list -/

/-- Whether a block is free. -/
def freeBlock (l : List Extent) (b : Nat) : Prop := ∃ e ∈ l, blockIn e b

theorem freeBlock_cons {e : Extent} {l : List Extent} {b : Nat} :
    freeBlock (e :: l) b ↔ blockIn e b ∨ freeBlock l b := by
  simp [freeBlock]

theorem freeBlock_nil {b : Nat} : ¬ freeBlock [] b := by simp [freeBlock]

theorem FreeListForm.of_cons {e : Extent} {l : List Extent} (h : FreeListForm (e :: l)) :
    1 ≤ e.count ∧ (∀ u ∈ l, e.first + e.count < u.first) ∧ FreeListForm l := by
  obtain ⟨count, order⟩ := h
  obtain ⟨head, tail⟩ := List.pairwise_cons.mp order
  exact ⟨count e List.mem_cons_self, head, fun u hu => count u (List.mem_cons_of_mem _ hu), tail⟩

theorem FreeListForm.cons {e : Extent} {l : List Extent} (count : 1 ≤ e.count)
    (head : ∀ u ∈ l, e.first + e.count < u.first) (h : FreeListForm l) : FreeListForm (e :: l) := by
  refine ⟨fun u hu => ?_, List.pairwise_cons.mpr ⟨head, h.2⟩⟩
  obtain rfl | hu := List.mem_cons.mp hu
  · exact count
  · exact h.1 u hu

theorem FreeListForm.nil : FreeListForm [] := ⟨nofun, .nil⟩

theorem releaseExtent_first {l : List Extent} {x y : Extent} (h : y ∈ releaseExtent l x) :
    y.first = x.first ∨ ∃ e ∈ l, y.first = e.first := by
  induction l with
  | nil => exact .inl (List.mem_singleton.mp h ▸ rfl)
  | cons e l ih =>
    unfold releaseExtent at h
    split at h
    · right
      split at h
      · exact ⟨e, List.mem_cons_self, List.mem_singleton.mp h ▸ rfl⟩
      · next u more =>
        split at h
        · obtain rfl | h := List.mem_cons.mp h
          · exact ⟨e, List.mem_cons_self, rfl⟩
          · exact ⟨y, List.mem_cons_of_mem _ (List.mem_cons_of_mem _ h), rfl⟩
        · obtain rfl | h := List.mem_cons.mp h
          · exact ⟨e, List.mem_cons_self, rfl⟩
          · exact ⟨y, List.mem_cons_of_mem _ h, rfl⟩
    · split at h
      · obtain rfl | h := List.mem_cons.mp h
        · exact .inl rfl
        · exact .inr ⟨y, List.mem_cons_of_mem _ h, rfl⟩
      · split at h
        · obtain rfl | h := List.mem_cons.mp h
          · exact .inl rfl
          · exact .inr ⟨y, h, rfl⟩
        · obtain rfl | h := List.mem_cons.mp h
          · exact .inr ⟨y, List.mem_cons_self, rfl⟩
          · obtain is | ⟨u, hu, is⟩ := ih h
            · exact .inl is
            · exact .inr ⟨u, List.mem_cons_of_mem _ hu, is⟩

theorem freeBlock_releaseExtent {l : List Extent} {x : Extent} {b : Nat} :
    freeBlock (releaseExtent l x) b ↔ freeBlock l b ∨ blockIn x b := by
  induction l with
  | nil => simp [releaseExtent, freeBlock]
  | cons e l ih =>
    unfold releaseExtent
    split
    · next below =>
      split
      · simp only [freeBlock_cons, freeBlock_nil, or_false, blockIn]
        omega
      · next u more =>
        split
        · simp only [freeBlock_cons, blockIn]
          by_cases hm : freeBlock more b <;> simp only [hm, or_true, true_or, or_false]
          omega
        · simp only [freeBlock_cons, blockIn]
          by_cases hm : freeBlock more b <;> simp only [hm, or_true, true_or, or_false]
          omega
    · split
      · simp only [freeBlock_cons, blockIn]
        by_cases hm : freeBlock l b <;> simp only [hm, or_true, true_or, or_false]
        omega
      · split
        · rw [freeBlock_cons]
          exact or_comm
        · rw [freeBlock_cons, ih, freeBlock_cons, or_assoc]

theorem FreeListForm.releaseExtent {l : List Extent} {x : Extent} (h : FreeListForm l) (count : 1 ≤ x.count)
    (apart : ∀ b, blockIn x b → ¬ freeBlock l b) : FreeListForm (releaseExtent l x) := by
  induction l with
  | nil => exact .cons count nofun .nil
  | cons e l ih =>
    obtain ⟨ecount, head, tail⟩ := h.of_cons
    have tailApart (b : Nat) (hb : blockIn x b) : ¬ freeBlock l b := fun hf => apart b hb (freeBlock_cons.mpr (.inr hf))
    have headApart (b : Nat) (hb : blockIn x b) : ¬ blockIn e b := fun hf => apart b hb (freeBlock_cons.mpr (.inl hf))
    unfold Machine.releaseExtent
    split
    · next below =>
      split
      · exact .cons (by simp only; omega) nofun .nil
      · next u more =>
        obtain ⟨ucount, uhead, utail⟩ := tail.of_cons
        have before : e.first + e.count < u.first := head u List.mem_cons_self
        have uapart := tailApart u.first
        simp only [freeBlock_cons, blockIn, not_or] at uapart
        split
        · next touches =>
          refine .cons (by simp only; omega) (fun v hv => ?_) utail
          have := uhead v hv
          simp only
          omega
        · next gap =>
          refine .cons (by simp only; omega) (fun v hv => ?_) tail
          obtain rfl | hv := List.mem_cons.mp hv
          · simp only
            omega
          · have := uhead v hv
            simp only
            omega
    · next notBelow =>
      have startOut := headApart x.first
      have startOut' := headApart e.first
      simp only [blockIn] at startOut startOut'
      split
      · next touches =>
        refine .cons (by simp only; omega) (fun v hv => ?_) tail
        have := head v hv
        simp only
        omega
      · next gap =>
        split
        · next first =>
          refine .cons count (fun v hv => ?_) h
          obtain rfl | hv := List.mem_cons.mp hv
          · omega
          · have := head v hv
            omega
        · next later =>
          refine .cons ecount (fun v hv => ?_) (ih tail tailApart)
          obtain is | ⟨u, hu, is⟩ := releaseExtent_first hv
          · omega
          · have := head u hu
            omega

theorem allocate_first {l left : List Extent} {n first : Nat} (h : allocate l n = some (first, left)) {y : Extent}
    (hy : y ∈ left) : ∃ e ∈ l, e.first ≤ y.first := by
  induction l generalizing left with
  | nil => cases h
  | cons e l ih =>
    unfold allocate at h
    split at h
    · cases h
      split at hy
      · exact ⟨y, List.mem_cons_of_mem _ hy, Nat.le_refl _⟩
      · obtain rfl | hy := List.mem_cons.mp hy
        · exact ⟨e, List.mem_cons_self, Nat.le_add_right _ _⟩
        · exact ⟨y, List.mem_cons_of_mem _ hy, Nat.le_refl _⟩
    · obtain ⟨⟨f, left'⟩, ha, is⟩ := Option.map_eq_some_iff.mp h
      cases is
      obtain rfl | hy := List.mem_cons.mp hy
      · exact ⟨y, List.mem_cons_self, Nat.le_refl _⟩
      · obtain ⟨u, hu, le⟩ := ih ha hy
        exact ⟨u, List.mem_cons_of_mem _ hu, le⟩

/-- What is allocated was free, and what was free is allocated or left (R4). -/
theorem allocate_law {l left : List Extent} {n first : Nat} (h : allocate l n = some (first, left)) (hl : FreeListForm l) :
    FreeListForm left ∧ (∀ b, freeBlock l b ↔ freeBlock left b ∨ blockIn ⟨first, n⟩ b) ∧
      (∀ b, blockIn ⟨first, n⟩ b → ¬ freeBlock left b) := by
  induction l generalizing left with
  | nil => cases h
  | cons e l ih =>
    obtain ⟨ecount, head, tail⟩ := hl.of_cons
    have behind (b : Nat) (hb : freeBlock l b) : e.first + e.count < b := by
      obtain ⟨u, hu, low, -⟩ := hb
      have := head u hu
      omega
    unfold allocate at h
    split at h
    · next fits =>
      cases h
      split
      · next whole =>
        subst whole
        refine ⟨tail, fun b => freeBlock_cons.trans or_comm, fun b hb hf => ?_⟩
        have := behind b hf
        simp only [blockIn] at hb
        omega
      · next part =>
        refine ⟨.cons (by simp only; omega) (fun u hu => ?_) tail, fun b => ?_, fun b hb hf => ?_⟩
        · have := head u hu
          simp only
          omega
        · simp only [freeBlock_cons, blockIn]
          by_cases hf : freeBlock l b <;> simp only [hf, or_true, true_or, or_false]
          omega
        · obtain hf | hf := freeBlock_cons.mp hf
          · simp only [blockIn] at hb hf
            omega
          · have := behind b hf
            simp only [blockIn] at hb
            omega
    · obtain ⟨⟨f, left'⟩, ha, is⟩ := Option.map_eq_some_iff.mp h
      cases is
      obtain ⟨form, cover, apart⟩ := ih ha tail
      refine ⟨.cons ecount (fun u hu => ?_) form, fun b => ?_, fun b hb hf => ?_⟩
      · obtain ⟨v, hv, le⟩ := allocate_first ha hu
        exact (head v hv).trans_le le
      · rw [freeBlock_cons, cover, freeBlock_cons, or_assoc]
      · obtain hf | hf := freeBlock_cons.mp hf
        · have := behind b ((cover b).mpr (.inr hb))
          simp only [blockIn] at hf
          omega
        · exact apart b hb hf

/-! ## Who holds what -/

/-- The extent a plane or a font holds, if any. -/
def State.holding (s : State) : ExtentOwner → Option Extent
  | .plane h => if (s.plane h).state = .free then none else some (s.plane h).extent
  | .font i => if (s.font i).state = .defined then some (s.font i).extent else none

/-- The blocks below 1536 are free or held by one owner. -/
structure Accounted (held : ExtentOwner → Option Extent) (free : Nat → Prop) : Prop where
  count : ∀ o e, held o = some e → 1 ≤ e.count
  apart : ∀ o o' e e', ¬ o = o' → held o = some e → held o' = some e' → ∀ b, blockIn e b → ¬ blockIn e' b
  unfree : ∀ o e b, held o = some e → blockIn e b → ¬ free b
  cover : ∀ b, (free b ∨ ∃ o e, held o = some e ∧ blockIn e b) ↔ b < 1536

/-- Whether an extent, if there is one, has a block. -/
def inHolding (x : Option Extent) (b : Nat) : Prop := ∃ e, x = some e ∧ blockIn e b

/-- What one owner holds changes, with what is free, but no block goes to another owner or to none. -/
theorem Accounted.update {held : ExtentOwner → Option Extent} {free free' : Nat → Prop} (h : Accounted held free)
    (o : ExtentOwner) {x : Option Extent} (count : ∀ e, x = some e → 1 ≤ e.count)
    (blocks : ∀ b, (free' b ∨ inHolding x b) ↔ free b ∨ inHolding (held o) b)
    (unfree : ∀ b, inHolding x b → ¬ free' b) : Accounted (Function.update held o x) free' := by
  obtain ⟨count', apart, unfree', cover⟩ := h
  have moved (p : ExtentOwner) (e : Extent) (b : Nat) (hp : ¬ p = o) (he : held p = some e) (hb : blockIn e b) :
      ¬ (free' b ∨ inHolding x b) := by
    rw [blocks]
    rintro (hf | ⟨e', he', hb'⟩)
    · exact unfree' p e b he hb hf
    · exact apart p o e e' hp he he' b hb hb'
  refine ⟨fun p e he => ?_, fun p p' e e' hne he he' b hb hb' => ?_, fun p e b he hb => ?_, fun b => ?_⟩
  · by_cases hp : p = o
    · subst hp
      rw [Function.update_self] at he
      exact count e he
    · rw [Function.update_of_ne hp] at he
      exact count' p e he
  · by_cases hp : p = o
    · subst hp
      rw [Function.update_self] at he
      rw [Function.update_of_ne (Ne.symm hne)] at he'
      exact moved p' e' b (Ne.symm hne) he' hb' (.inr ⟨e, he, hb⟩)
    · rw [Function.update_of_ne hp] at he
      by_cases hp' : p' = o
      · subst hp'
        rw [Function.update_self] at he'
        exact moved p e b hp he hb (.inr ⟨e', he', hb'⟩)
      · rw [Function.update_of_ne hp'] at he'
        exact apart p p' e e' hne he he' b hb hb'
  · by_cases hp : p = o
    · subst hp
      rw [Function.update_self] at he
      exact unfree b ⟨e, he, hb⟩
    · rw [Function.update_of_ne hp] at he
      exact fun hf => moved p e b hp he hb (.inl hf)
  · rw [← cover]
    constructor
    · rintro (hf | ⟨p, e, he, hb⟩)
      · obtain hf | ⟨e, he, hb⟩ := (blocks b).mp (.inl hf)
        · exact .inl hf
        · exact .inr ⟨o, e, he, hb⟩
      · by_cases hp : p = o
        · subst hp
          rw [Function.update_self] at he
          obtain hf | ⟨e, he, hb⟩ := (blocks b).mp (.inr ⟨e, he, hb⟩)
          · exact .inl hf
          · exact .inr ⟨p, e, he, hb⟩
        · rw [Function.update_of_ne hp] at he
          exact .inr ⟨p, e, he, hb⟩
    · have back (hb : free b ∨ inHolding (held o) b) :
          free' b ∨ ∃ p e, Function.update held o x p = some e ∧ blockIn e b := by
        obtain hf | ⟨e, he, hb⟩ := (blocks b).mpr hb
        · exact .inl hf
        · exact .inr ⟨o, e, by rw [Function.update_self, he], hb⟩
      rintro (hf | ⟨p, e, he, hb⟩)
      · exact back (.inl hf)
      · by_cases hp : p = o
        · subst hp
          exact back (.inr ⟨e, he, hb⟩)
        · exact .inr ⟨p, e, by rw [Function.update_of_ne hp, he], hb⟩

/-! ## The law of the store -/

theorem mem_allocated_iff {s : State} {x : OwnedExtent} : x ∈ s.allocated ↔ s.holding x.owner = some x.extent := by
  rw [mem_allocated]
  obtain ⟨owner, extent⟩ := x
  cases owner with
  | plane h =>
    simp only [OwnedExtent.mk.injEq, ExtentOwner.plane.injEq, reduceCtorEq, false_and, and_false, exists_false, or_false,
      State.holding]
    constructor
    · rintro ⟨k, -, used, rfl, rfl⟩
      exact if_neg used
    · intro held
      split at held
      · cases held
      · next used => exact ⟨h, State.handle_of_used used, used, rfl, (Option.some.inj held).symm⟩
  | font i =>
    simp only [OwnedExtent.mk.injEq, ExtentOwner.font.injEq, reduceCtorEq, false_and, and_false, exists_false, false_or,
      State.holding]
    constructor
    · rintro ⟨k, -, used, rfl, rfl⟩
      exact if_pos used
    · intro held
      split at held
      · next used =>
        refine ⟨i, ?_, used, rfl, (Option.some.inj held).symm⟩
        by_contra out
        rw [s.font_outside i (by omega)] at used
        cases used
      · cases held

theorem allocated_nodup (s : State) : s.allocated.Nodup := by
  unfold State.allocated
  refine List.nodup_append.mpr ⟨?_, ?_, ?_⟩
  · refine (List.Nodup.filter _ (List.nodup_range' (s := 1))).map fun h k is => ?_
    simp only [OwnedExtent.mk.injEq, ExtentOwner.plane.injEq] at is
    exact is.1
  · refine (List.Nodup.filter _ List.nodup_range).map fun h k is => ?_
    simp only [OwnedExtent.mk.injEq, ExtentOwner.font.injEq] at is
    exact is.1
  · intro x hx y hy is
    obtain ⟨h, -, rfl⟩ := List.mem_map.mp hx
    obtain ⟨i, -, rfl⟩ := List.mem_map.mp hy
    cases is

theorem storeAccounted_iff {s : State} (h : FreeListForm s.freeList) :
    StoreAccounted s ↔ Accounted s.holding (freeBlock s.freeList) := by
  have inAllocated (e : Extent) : e ∈ s.allocated.map (·.extent) ↔ ∃ o, s.holding o = some e := by
    rw [List.mem_map]
    constructor
    · rintro ⟨x, hx, rfl⟩
      exact ⟨x.owner, mem_allocated_iff.mp hx⟩
    · rintro ⟨o, ho⟩
      exact ⟨⟨o, e⟩, mem_allocated_iff.mpr ho, rfl⟩
  unfold StoreAccounted
  dsimp only
  constructor
  · rintro ⟨count, apart, cover⟩
    obtain ⟨allocated, -, both⟩ := List.pairwise_append.mp apart
    refine ⟨fun o e ho => ?_, fun o o' e e' hne ho ho' b hb hb' => ?_, fun o e b ho hb hf => ?_, fun b => ?_⟩
    · exact count e (List.mem_append_left _ ((inAllocated e).mpr ⟨o, ho⟩))
    · have hx : (⟨o, e⟩ : OwnedExtent) ∈ s.allocated := mem_allocated_iff.mpr ho
      have hy : (⟨o', e'⟩ : OwnedExtent) ∈ s.allocated := mem_allocated_iff.mpr ho'
      have differ : (⟨o, e⟩ : OwnedExtent) ≠ ⟨o', e'⟩ := fun is => hne (congrArg OwnedExtent.owner is)
      have symm : Std.Symm fun x y : OwnedExtent => ∀ b, ¬ (blockIn x.extent b ∧ blockIn y.extent b) :=
        ⟨fun x y hxy b hb => hxy b hb.symm⟩
      exact (List.pairwise_map.mp allocated).forall hx hy differ b ⟨hb, hb'⟩
    · obtain ⟨e', he', hb'⟩ := hf
      exact both e ((inAllocated e).mpr ⟨o, ho⟩) e' he' b ⟨hb, hb'⟩
    · rw [← cover]
      constructor
      · rintro (⟨e, he, hb⟩ | ⟨o, e, ho, hb⟩)
        · exact ⟨e, List.mem_append_right _ he, hb⟩
        · exact ⟨e, List.mem_append_left _ ((inAllocated e).mpr ⟨o, ho⟩), hb⟩
      · rintro ⟨e, he, hb⟩
        obtain he | he := List.mem_append.mp he
        · obtain ⟨o, ho⟩ := (inAllocated e).mp he
          exact .inr ⟨o, e, ho, hb⟩
        · exact .inl ⟨e, he, hb⟩
  · rintro ⟨count, apart, unfree, cover⟩
    refine ⟨fun e he => ?_, List.pairwise_append.mpr ⟨?_, ?_, ?_⟩, fun b => ?_⟩
    · obtain he | he := List.mem_append.mp he
      · obtain ⟨o, ho⟩ := (inAllocated e).mp he
        exact count o e ho
      · exact h.1 e he
    · refine List.pairwise_map.mpr ((allocated_nodup s).pairwise_of_forall_ne fun x hx y hy hne b hb => ?_)
      refine apart x.owner y.owner x.extent y.extent (fun is => hne ?_) (mem_allocated_iff.mp hx)
        (mem_allocated_iff.mp hy) b hb.1 hb.2
      obtain ⟨ox, ex⟩ := x
      obtain ⟨oy, ey⟩ := y
      obtain rfl : ox = oy := is
      have held : s.holding ox = some ex := mem_allocated_iff.mp hx
      have held' : s.holding ox = some ey := mem_allocated_iff.mp hy
      rw [Option.some.inj (held.symm.trans held')]
    · refine h.2.imp fun {d e} before b hb => ?_
      simp only [blockIn] at hb
      omega
    · intro e he e' he' b hb
      obtain ⟨o, ho⟩ := (inAllocated e).mp he
      exact unfree o e b ho hb.1 ⟨e', he', hb.2⟩
    · rw [← cover]
      constructor
      · rintro ⟨e, he, hb⟩
        obtain he | he := List.mem_append.mp he
        · obtain ⟨o, ho⟩ := (inAllocated e).mp he
          exact .inr ⟨o, e, ho, hb⟩
        · exact .inl ⟨e, he, hb⟩
      · rintro (⟨e, he, hb⟩ | ⟨o, e, ho, hb⟩)
        · exact ⟨e, List.mem_append_right _ he, hb⟩
        · exact ⟨e, List.mem_append_left _ ((inAllocated e).mpr ⟨o, ho⟩), hb⟩

theorem storeLaw_iff {s : State} :
    StoreLaw s ↔ FreeListForm s.freeList ∧ Accounted s.holding (freeBlock s.freeList) ∧
      ∀ h, (s.plane h).releaseDue = true → (s.plane h).state = .retiring := by
  constructor
  · rintro ⟨form, accounted, due⟩
    exact ⟨form, (storeAccounted_iff form).mp accounted, due⟩
  · rintro ⟨form, accounted, due⟩
    exact ⟨form, (storeAccounted_iff form).mpr accounted, due⟩

end Sys2Proof.Machine
end

section
/-! Every step keeps the laws of the store (O58). -/

namespace Sys2Proof.Machine

set_option Elab.async false

/-! ## Who holds what, after a change -/

theorem State.holding_congr {s t : State} (planes : ∀ h, (t.plane h).state = (s.plane h).state ∧
    (t.plane h).extent = (s.plane h).extent) (fonts : ∀ i, (t.font i).state = (s.font i).state ∧
    (t.font i).extent = (s.font i).extent) : t.holding = s.holding := by
  funext o
  cases o with
  | plane h => simp only [State.holding, planes h]
  | font i => simp only [State.holding, fonts i]

theorem State.holding_setPlane {s : State} {k : Nat} (hk : 1 ≤ k ∧ k ≤ 24) (p : Plane) :
    (s.setPlane k p).holding =
      Function.update s.holding (.plane k) (if p.state = .free then none else some p.extent) := by
  funext o
  cases o with
  | plane h =>
    by_cases is : h = k
    · subst is
      rw [Function.update_self, State.holding, s.plane_setPlane h h p hk.1 hk.2, if_pos rfl]
    · rw [Function.update_of_ne (by simpa using is), State.holding, s.plane_setPlane h k p hk.1 hk.2, if_neg is,
        State.holding]
  | font i =>
    rw [Function.update_of_ne (by simp), State.holding, State.holding, State.font_congr (State.setPlane_fonts ..)]

theorem State.holding_setFont {s : State} {i : Nat} (hi : i ≤ 3) (f : Font) :
    (s.setFont i f).holding =
      Function.update s.holding (.font i) (if f.state = .defined then some f.extent else none) := by
  funext o
  cases o with
  | plane h =>
    rw [Function.update_of_ne (by simp), State.holding, State.holding, State.plane_congr (State.setFont_planes ..)]
  | font j =>
    by_cases is : j = i
    · subst is
      rw [Function.update_self, State.holding, s.font_setFont j j f hi, if_pos rfl]
    · rw [Function.update_of_ne (by simpa using is), State.holding, s.font_setFont j i f hi, if_neg is, State.holding]

theorem State.holding_of_used {s : State} {h : Nat} (used : ¬ (s.plane h).state = .free) :
    s.holding (.plane h) = some (s.plane h).extent := if_neg used

theorem State.holding_of_free {s : State} {h : Nat} (free : (s.plane h).state = .free) :
    s.holding (.plane h) = none := if_pos free

theorem State.holding_of_defined {s : State} {i : Nat} (is : (s.font i).state = .defined) :
    s.holding (.font i) = some (s.font i).extent := if_pos is

theorem State.holding_of_undefined {s : State} {i : Nat} (is : ¬ (s.font i).state = .defined) :
    s.holding (.font i) = none := if_neg is

theorem StoreLaw.congr {s t : State} (h : StoreLaw s) (free : t.freeList = s.freeList) (held : t.holding = s.holding)
    (due : ∀ h, (t.plane h).releaseDue = true → (t.plane h).state = .retiring) : StoreLaw t := by
  rw [storeLaw_iff] at h ⊢
  rw [free, held]
  exact ⟨h.1, h.2.1, due⟩

theorem StoreLaw.due {s : State} (h : StoreLaw s) {k : Nat} (hk : (s.plane k).releaseDue = true) :
    (s.plane k).state = .retiring := h.2.2 k hk

theorem StoreLaw.sameTables {s t : State} (h : StoreLaw s) (free : t.freeList = s.freeList)
    (planes : t.planes = s.planes) (fonts : t.fonts = s.fonts) : StoreLaw t := by
  have plane := State.plane_congr planes
  have font := State.font_congr fonts
  refine h.congr free (State.holding_congr (fun k => by rw [plane]; exact ⟨rfl, rfl⟩) fun i => by
    rw [font]; exact ⟨rfl, rfl⟩) fun k => ?_
  rw [plane]
  exact h.due

/-- A plane's record that holds the same extent, or none where it held none. -/
theorem StoreLaw.setPlane {s : State} (h : StoreLaw s) (k : Nat) {p : Plane} (extent : p.extent = (s.plane k).extent)
    (used : p.state = .free ↔ (s.plane k).state = .free) (due : p.releaseDue = true → p.state = .retiring) :
    StoreLaw (s.setPlane k p) := by
  by_cases hk : 1 ≤ k ∧ k ≤ 24
  · refine h.congr (State.setPlane_freeList ..) ?_ fun j => ?_
    · rw [State.holding_setPlane hk]
      refine Function.update_eq_self_iff.mpr ?_
      rw [State.holding, extent, if_congr used rfl rfl]
    · rw [s.plane_setPlane j k p hk.1 hk.2]
      split
      · exact due
      · exact h.due
  · have plane : ∀ j, (s.setPlane k p).plane j = s.plane j := fun j => s.plane_setPlane_outside j k p (by omega)
    refine h.congr (State.setPlane_freeList ..) (State.holding_congr (fun j => ?_) fun i => ?_) fun j => ?_
    · rw [plane]
      exact ⟨rfl, rfl⟩
    · rw [State.font_congr (State.setPlane_fonts ..)]
      exact ⟨rfl, rfl⟩
    · rw [plane]
      exact h.due

/-! ## Allocation and release -/

/-- What is free when one owner's holding becomes another extent of blocks that were free or its own. -/
theorem StoreLaw.update {s t : State} (h : StoreLaw s) (o : ExtentOwner) {x : Option Extent}
    (held : t.holding = Function.update s.holding o x) (form : FreeListForm t.freeList)
    (count : ∀ e, x = some e → 1 ≤ e.count)
    (blocks : ∀ b, (freeBlock t.freeList b ∨ inHolding x b) ↔ freeBlock s.freeList b ∨ inHolding (s.holding o) b)
    (unfree : ∀ b, inHolding x b → ¬ freeBlock t.freeList b)
    (due : ∀ h, (t.plane h).releaseDue = true → (t.plane h).state = .retiring) : StoreLaw t := by
  rw [storeLaw_iff] at h ⊢
  rw [held]
  exact ⟨form, h.2.1.update o count blocks unfree, due⟩

theorem inHolding_some {e : Extent} {b : Nat} : inHolding (some e) b ↔ blockIn e b := by simp [inHolding]

theorem inHolding_none {b : Nat} : ¬ inHolding none b := by simp [inHolding]

/-- An owner that held nothing takes what the first fit gives. -/
theorem StoreLaw.taken {s t : State} (h : StoreLaw s) (o : ExtentOwner) {n first : Nat} {left : List Extent}
    (ha : allocate s.freeList n = some (first, left)) (hn : 1 ≤ n) (none : s.holding o = none)
    (held : t.holding = Function.update s.holding o (some ⟨first, n⟩)) (free : t.freeList = left)
    (due : ∀ h, (t.plane h).releaseDue = true → (t.plane h).state = .retiring) : StoreLaw t := by
  obtain ⟨form, cover, apart⟩ := allocate_law ha h.1
  refine h.update o held (free ▸ form) (fun e he => Option.some.inj he ▸ hn) (fun b => ?_) (fun b hb => ?_) due
  · rw [free, inHolding_some, none, cover]
    exact ⟨.inl, fun hb => hb.resolve_right inHolding_none⟩
  · rw [free]
    exact apart b (inHolding_some.mp hb)

/-- An owner gives back what it held. -/
theorem StoreLaw.returned {s t : State} (h : StoreLaw s) (o : ExtentOwner) {e : Extent} (ho : s.holding o = some e)
    (held : t.holding = Function.update s.holding o none) (free : t.freeList = releaseExtent s.freeList e)
    (due : ∀ h, (t.plane h).releaseDue = true → (t.plane h).state = .retiring) : StoreLaw t := by
  obtain ⟨form, accounted, -⟩ := storeLaw_iff.mp h
  refine h.update o held ?_ nofun (fun b => ?_) (fun b hb => absurd hb inHolding_none) due
  · rw [free]
    exact form.releaseExtent (accounted.count o e ho) fun b => accounted.unfree o e b ho
  · rw [free, freeBlock_releaseExtent, ho, inHolding_some]
    exact ⟨fun hb => hb.resolve_right inHolding_none, .inl⟩

theorem StoreLaw.releasePlane {s : State} (h : StoreLaw s) {k : Nat} (used : ¬ (s.plane k).state = .free) :
    StoreLaw (s.releasePlane k) := by
  have range := State.handle_of_used used
  refine h.returned (.plane k) (State.holding_of_used used) ?_ (State.setPlane_freeList ..) fun j => ?_
  · rw [State.releasePlane, State.holding_setPlane range]
    rfl
  · rw [State.releasePlane, State.plane_setPlane _ j k _ range.1 range.2]
    split
    · nofun
    · exact h.due

theorem StoreLaw.releasable {s : State} (h : StoreLaw s) {k : Nat} (hr : s.Releasable k) :
    ¬ (s.plane k).state = .free := by
  intro free
  obtain retiring | due | ⟨live, -⟩ := hr
  · cases free.symm.trans retiring
  · cases free.symm.trans (h.due due)
  · cases free.symm.trans live

theorem Move.storeLaw {s t : State} (h : Move s t) (hs : StoreLaw s) : StoreLaw t := by
  cases h with
  | rest _ h => exact hs.sameTables (by rw [h]) (by rw [h]) (by rw [h])
  | push | unlock | lock | freeHold | takeHold | link => exact hs.sameTables rfl rfl rfl
  | refCount h => exact hs.setPlane h rfl Iff.rfl hs.due
  | due h retiring => exact hs.setPlane h rfl Iff.rfl fun _ => retiring
  | retire h live =>
    exact hs.setPlane h rfl ⟨nofun, fun free => PlaneState.noConfusion (live.symm.trans free)⟩ fun _ => rfl
  | release h hr => exact hs.releasePlane (hs.releasable hr)
  | port => exact hs.sameTables (State.setPort_freeList ..) (State.setPort_planes ..) (State.setPort_fonts ..)
  | claim p u =>
    have only : PortsOnly s (s.setPort p u).arbitrate := (PortsOnly.setPort s p u).trans (.arbitrate _)
    exact hs.sameTables (by rw [only]) (by rw [only]) (by rw [only])
  | wake w =>
    have only := PortsOnly.wakePorts s w
    exact hs.sameTables (by rw [only]) (by rw [only]) (by rw [only])
  | font i f glyphs hi hst he =>
    refine hs.congr rfl ?_ hs.2.2
    have update : State.holding { s.setFont i f with glyphs := glyphs } = (s.setFont i f).holding := rfl
    rw [update, State.holding_setFont hi]
    refine Function.update_eq_self_iff.mpr ?_
    rw [State.holding, hst, he]

theorem Moves.storeLaw {s t : State} (h : Moves s t) : StoreLaw s → StoreLaw t := h.keeps Move.storeLaw

/-! ## PACK's moves (R19) -/

/-- One extent ends before another begins. -/
def OwnedExtent.below (x y : OwnedExtent) : Prop := x.extent.first + x.extent.count ≤ y.extent.first

theorem insertByFirst_pairwise {x : OwnedExtent} {l : List OwnedExtent} (hl : l.Pairwise OwnedExtent.below)
    (count : ∀ y ∈ l, 1 ≤ y.extent.count) (hx : 1 ≤ x.extent.count)
    (apart : ∀ y ∈ l, ∀ b, blockIn x.extent b → ¬ blockIn y.extent b) :
    (insertByFirst x l).Pairwise OwnedExtent.below := by
  have sides (y : OwnedExtent) (hy : y ∈ l) : x.below y ∨ y.below x := by
    have hcount := count y hy
    have hlow := apart y hy x.extent.first
    have hhigh := apart y hy y.extent.first
    simp only [blockIn, OwnedExtent.below] at *
    omega
  induction l with
  | nil => exact List.pairwise_singleton _ _
  | cons e l ih =>
    obtain ⟨head, tail⟩ := List.pairwise_cons.mp hl
    have ecount := count e List.mem_cons_self
    unfold insertByFirst
    split
    · next first =>
      refine List.pairwise_cons.mpr ⟨fun y hy => ?_, hl⟩
      have before : x.below e := (sides e List.mem_cons_self).resolve_right fun hb => by
        simp only [OwnedExtent.below] at hb
        omega
      obtain rfl | hy := List.mem_cons.mp hy
      · exact before
      · have := head y hy
        simp only [OwnedExtent.below] at *
        omega
    · next later =>
      have behind : e.below x := (sides e List.mem_cons_self).resolve_left fun hb => by
        simp only [OwnedExtent.below] at hb
        omega
      refine List.pairwise_cons.mpr ⟨fun y hy => ?_, ih tail (fun y hy => count y (List.mem_cons_of_mem _ hy))
        (fun y hy => apart y (List.mem_cons_of_mem _ hy)) fun y hy => sides y (List.mem_cons_of_mem _ hy)⟩
      obtain rfl | hy := mem_insertByFirst.mp hy
      · exact behind
      · exact head y hy

/-- The allocated extents stand in order, none meeting another. -/
theorem StoreLaw.inOrder {s : State} (h : StoreLaw s) : s.allocatedInOrder.Pairwise OwnedExtent.below := by
  obtain ⟨-, accounted, -⟩ := storeLaw_iff.mp h
  have held (l : List OwnedExtent) (hl : ∀ x ∈ l, s.holding x.owner = some x.extent) (nodup : l.Nodup) :
      (l.foldr insertByFirst []).Pairwise OwnedExtent.below ∧ ∀ x, x ∈ l.foldr insertByFirst [] ↔ x ∈ l := by
    induction l with
    | nil => exact ⟨.nil, fun _ => Iff.rfl⟩
    | cons e l ih =>
      obtain ⟨fresh, nodup⟩ := List.nodup_cons.mp nodup
      obtain ⟨sorted, same⟩ := ih (fun x hx => hl x (List.mem_cons_of_mem _ hx)) nodup
      have he := hl e List.mem_cons_self
      refine ⟨insertByFirst_pairwise sorted (fun y hy => ?_) (accounted.count _ _ he) fun y hy b hb => ?_, fun x => ?_⟩
      · exact accounted.count _ _ (hl y (List.mem_cons_of_mem _ ((same y).mp hy)))
      · have hy := (same y).mp hy
        have hy' := hl y (List.mem_cons_of_mem _ hy)
        refine accounted.apart _ _ _ _ (fun is => fresh ?_) he hy' b hb
        rw [is] at he
        obtain ⟨eo, ee⟩ := e
        obtain ⟨yo, ye⟩ := y
        obtain rfl : eo = yo := is
        obtain rfl : ye = ee := Option.some.inj (hy'.symm.trans he)
        exact hy
      · rw [List.foldr_cons, mem_insertByFirst, same, List.mem_cons]
  exact (held s.allocated (fun x => mem_allocated_iff.mp) (allocated_nodup s)).1

/-- The first extent with room below it: those before it end at its target at the latest, and one of them ends there,
where the target is not the start (R19). -/
theorem firstToMove_split {l : List OwnedExtent} {a t : Nat} {x : OwnedExtent} (h : firstToMove a l = some (x, t))
    (hl : l.Pairwise OwnedExtent.below) :
    ∃ front back, l = front ++ x :: back ∧ t < x.extent.first ∧
      (∀ y ∈ front, y.extent.first + y.extent.count ≤ t) ∧
      (t = a ∧ front = [] ∨ ∃ y ∈ front, t = y.extent.first + y.extent.count) := by
  induction l generalizing a with
  | nil => cases h
  | cons e l ih =>
    obtain ⟨head, tail⟩ := List.pairwise_cons.mp hl
    unfold firstToMove at h
    split at h
    · next room =>
      cases h
      exact ⟨[], l, rfl, room, nofun, .inl ⟨rfl, rfl⟩⟩
    · obtain ⟨front, back, rfl, room, below, reached⟩ := ih h tail
      have atEnd : e.extent.first + e.extent.count ≤ t := by
        obtain ⟨rfl, -⟩ | ⟨y, hy, rfl⟩ := reached
        · exact Nat.le_refl _
        · have := head y (List.mem_append_left _ hy)
          simp only [OwnedExtent.below] at this
          omega
      refine ⟨e :: front, back, rfl, room, fun y hy => ?_, .inr ?_⟩
      · obtain rfl | hy := List.mem_cons.mp hy
        · exact atEnd
        · exact below y hy
      · obtain ⟨is, -⟩ | ⟨y, hy, is⟩ := reached
        · exact ⟨e, List.mem_cons_self, is⟩
        · exact ⟨y, List.mem_cons_of_mem _ hy, is⟩

theorem State.nextMove_held {s : State} {x : OwnedExtent} {t : Nat} (hm : s.nextMove = some (x, t)) :
    s.holding x.owner = some x.extent :=
  mem_allocated_iff.mp (mem_allocatedInOrder.mp (firstToMove_mem hm))

/-- The room below the extent that PACK moves next is one free extent (R19). -/
theorem StoreLaw.freeGap {s : State} (h : StoreLaw s) {x : OwnedExtent} {t : Nat} (hm : s.nextMove = some (x, t)) :
    t < x.extent.first ∧ (⟨t, x.extent.first - t⟩ : Extent) ∈ s.freeList := by
  obtain ⟨form, accounted, -⟩ := storeLaw_iff.mp h
  obtain ⟨front, back, split, room, below, reached⟩ := firstToMove_split hm h.inOrder
  have held (y : OwnedExtent) (hy : y ∈ s.allocatedInOrder) : s.holding y.owner = some y.extent :=
    mem_allocated_iff.mp (mem_allocatedInOrder.mp hy)
  have xin : blockIn x.extent x.extent.first :=
    ⟨Nat.le_refl _, Nat.lt_add_of_pos_right (accounted.count _ _ (State.nextMove_held hm))⟩
  have inStore : x.extent.first < 1536 := (accounted.cover _).mp (.inr ⟨_, _, State.nextMove_held hm, xin⟩)
  have gapFree (b : Nat) (low : t ≤ b) (high : b < x.extent.first) : freeBlock s.freeList b := by
    obtain free | ⟨o, e, ho, hb⟩ := (accounted.cover b).mpr (high.trans inStore)
    · exact free
    · have hy : (⟨o, e⟩ : OwnedExtent) ∈ front ++ x :: back :=
        split ▸ mem_allocatedInOrder.mpr (mem_allocated_iff.mpr ho)
      have sorted := split ▸ h.inOrder
      simp only [blockIn] at hb
      obtain hy | hy := List.mem_append.mp hy
      · have := below _ hy
        simp only at this
        omega
      · obtain rfl | hy := List.mem_cons.mp hy
        · simp only at high
          omega
        · have := (List.pairwise_cons.mp (List.pairwise_append.mp sorted).2.1).1 _ hy
          simp only [OwnedExtent.below] at this
          omega
  have startsThere (e : Extent) (he : e ∈ s.freeList) (low : e.first < t) (high : t - 1 < e.first + e.count) : False := by
    obtain ⟨rfl, -⟩ | ⟨y, hy, is⟩ := reached
    · exact Nat.not_lt_zero _ low
    · have hy := held y (split ▸ List.mem_append_left _ hy)
      have := accounted.count _ _ hy
      refine accounted.unfree _ _ (t - 1) hy ?_ ⟨e, he, ?_⟩ <;> simp only [blockIn] <;> omega
  obtain ⟨e, he, low, high⟩ := gapFree t (Nat.le_refl _) room
  have first : e.first = t := by
    by_contra differ
    exact startsThere e he (by omega) (by omega)
  have notBeyond : ¬ x.extent.first < e.first + e.count := fun beyond =>
    accounted.unfree _ _ _ (State.nextMove_held hm) xin ⟨e, he, by simp only [blockIn]; omega⟩
  have notShort : ¬ e.first + e.count < x.extent.first := by
    intro short
    obtain ⟨u, hu, ulow, uhigh⟩ := gapFree (e.first + e.count) (by omega) short
    have differ : u ≠ e := by
      rintro rfl
      exact Nat.lt_irrefl _ uhigh
    have := form.1 e he
    have symm : Std.Symm fun d e : Extent => d.first + d.count < e.first ∨ e.first + e.count < d.first :=
      ⟨fun _ _ => Or.symm⟩
    have apart := (form.2.imp (S := fun d e : Extent => d.first + d.count < e.first ∨ e.first + e.count < d.first)
      Or.inl).forall hu he differ
    omega
  refine ⟨room, ?_⟩
  obtain ⟨ef, ec⟩ := e
  simp only at first notBeyond notShort high
  obtain rfl : ec = x.extent.first - t := by omega
  exact first ▸ he

/-- The free blocks but for those of one entry. -/
theorem freeBlock_filter {l : List Extent} (h : FreeListForm l) {e : Extent} (he : e ∈ l) {b : Nat} :
    freeBlock (l.filter (fun u => !(u.first == e.first))) b ↔ freeBlock l b ∧ ¬ blockIn e b := by
  have apart {u : Extent} (hu : u ∈ l) (differ : u ≠ e) :
      u.first + u.count < e.first ∨ e.first + e.count < u.first := by
    have symm : Std.Symm fun d e : Extent => d.first + d.count < e.first ∨ e.first + e.count < d.first :=
      ⟨fun _ _ => Or.symm⟩
    exact (h.2.imp (S := fun d e : Extent => d.first + d.count < e.first ∨ e.first + e.count < d.first)
      Or.inl).forall hu he differ
  simp only [freeBlock, List.mem_filter, Bool.not_eq_true', beq_eq_false_iff_ne, and_assoc]
  constructor
  · rintro ⟨u, hu, differ, hb⟩
    refine ⟨⟨u, hu, hb⟩, ?_⟩
    have := apart hu (fun is => differ (is ▸ rfl))
    simp only [blockIn] at *
    omega
  · rintro ⟨⟨u, hu, hb⟩, out⟩
    exact ⟨u, hu, fun is => out (by
      by_cases same : u = e
      · exact same ▸ hb
      · have := apart hu same
        have := h.1 u hu
        have := h.1 e he
        omega), hb⟩

theorem FreeListForm.filter {l : List Extent} (h : FreeListForm l) (t : Extent → Bool) : FreeListForm (l.filter t) :=
  ⟨fun e he => h.1 e (List.mem_of_mem_filter he), h.2.filter t⟩

/-- The free blocks after the move: those below the extent, but for the room it moves into, and what it leaves (R19). -/
theorem StoreLaw.freeBlock_move {s : State} (h : StoreLaw s) {x : OwnedExtent} {t : Nat} (hm : s.nextMove = some (x, t))
    (b : Nat) :
    freeBlock (freeAfterMove s.freeList x.extent.first x.extent.count t) b ↔
      freeBlock s.freeList b ∧ ¬ (t ≤ b ∧ b < x.extent.first) ∨
        t + x.extent.count ≤ b ∧ b < x.extent.first + x.extent.count := by
  obtain ⟨room, gap⟩ := h.freeGap hm
  rw [freeAfterMove, freeBlock_releaseExtent, freeBlock_filter h.1 (e := ⟨t, x.extent.first - t⟩) gap]
  simp only [blockIn]
  rw [Nat.add_sub_cancel' room.le]
  refine or_congr Iff.rfl ⟨fun hb => ?_, fun hb => ?_⟩ <;> omega

theorem StoreLaw.moveExtent {s : State} (h : StoreLaw s) {x : OwnedExtent} {t : Nat} (hm : s.nextMove = some (x, t)) :
    StoreLaw (s.moveExtent x t) := by
  obtain ⟨form, accounted, -⟩ := storeLaw_iff.mp h
  obtain ⟨room, gap⟩ := h.freeGap hm
  have free := h.freeBlock_move hm
  have ho := State.nextMove_held hm
  have count := accounted.count _ _ ho
  have unfree (b : Nat) := accounted.unfree _ _ b ho
  obtain ⟨owner, f, n⟩ := x
  simp only at room gap free ho count unfree
  have freed (b : Nat) (low : t ≤ b) (high : b < f) : freeBlock s.freeList b :=
    ⟨_, gap, by simp only [blockIn]; omega⟩
  have stays (b : Nat) (low : f ≤ b) (high : b < f + n) : ¬ freeBlock s.freeList b := unfree b ⟨low, high⟩
  have form' : FreeListForm (freeAfterMove s.freeList f n t) := by
    refine (form.filter _).releaseExtent (Nat.sub_pos_of_lt room) fun b hb => ?_
    rw [freeBlock_filter form (e := ⟨t, f - t⟩) gap]
    rintro ⟨isFree, out⟩
    simp only [blockIn] at hb out
    exact stays b (by omega) (by omega) isFree
  have moved (t' : State) (list : t'.freeList = freeAfterMove s.freeList f n t)
      (held : t'.holding = Function.update s.holding owner (some ⟨t, n⟩))
      (due : ∀ h, (t'.plane h).releaseDue = true → (t'.plane h).state = .retiring) : StoreLaw t' := by
    refine h.update owner held (list ▸ form') (fun e he => Option.some.inj he ▸ count) (fun b => ?_) (fun b hb => ?_) due
    · rw [list, free, ho, inHolding_some, inHolding_some]
      simp only [blockIn]
      by_cases hf : freeBlock s.freeList b
      · have out : ¬ (f ≤ b ∧ b < f + n) := fun ⟨low, high⟩ => stays b low high hf
        simp only [hf, true_and, true_or, iff_true]
        omega
      · have out : ¬ (t ≤ b ∧ b < f) := fun ⟨low, high⟩ => hf (freed b low high)
        simp only [hf, false_and, false_or]
        omega
    · rw [list, free]
      rw [inHolding_some] at hb
      simp only [blockIn] at hb
      rintro (⟨isFree, out⟩ | late)
      · exact stays b (by omega) (by omega) isFree
      · omega
  cases owner with
  | plane k =>
    have used : ¬ (s.plane k).state = .free := fun is => by
      rw [State.holding_of_free is] at ho
      cases ho
    have range := State.handle_of_used used
    have extent : (s.plane k).extent = ⟨f, n⟩ := Option.some.inj ((State.holding_of_used used).symm.trans ho)
    refine moved _ (State.setPlane_freeList ..) ?_ fun j => ?_
    · refine (State.holding_setPlane range _).trans ?_
      refine congrArg (Function.update s.holding _) ?_
      refine (if_neg used).trans ?_
      show some (⟨t, (s.plane k).extent.count⟩ : Extent) = _
      rw [extent]
    · rw [State.moveExtent, State.relocate, State.plane_setPlane _ j k _ range.1 range.2]
      split
      · exact h.due
      · exact h.due
  | font i =>
    have used : (s.font i).state = .defined := by
      by_contra is
      rw [State.holding_of_undefined is] at ho
      cases ho
    have range : i ≤ 3 := by
      by_contra out
      rw [s.font_outside i (by omega)] at used
      cases used
    have extent : (s.font i).extent = ⟨f, n⟩ := Option.some.inj ((State.holding_of_defined used).symm.trans ho)
    refine moved _ rfl ?_ h.2.2
    refine (State.holding_setFont range _).trans ?_
    refine congrArg (Function.update s.holding _) ?_
    refine (if_pos used).trans ?_
    show some (⟨t, (s.font i).extent.count⟩ : Extent) = _
    rw [extent]

theorem planeBlocks_pos {width height depth fill : Nat} (h : newPlaneFieldsOk width height depth fill = true) :
    1 ≤ planeBlocks width height depth := by
  obtain ⟨wide, -, -, tall, -, deep⟩ := newPlaneFieldsOk_iff.mp h
  have pixels : 0 < width * depth * height := Nat.mul_pos (Nat.mul_pos (by omega) (by omega)) tall
  unfold planeBlocks
  omega

theorem StoreLaw.portsOnly {s t : State} (h : StoreLaw s) (only : PortsOnly s t) : StoreLaw t :=
  h.sameTables only.keeps.1 only.keeps.2.1 only.engine.keeps.2.2.2.1

theorem StoreLaw.setBound {s : State} (h : StoreLaw s) (k : Nat) (p : Port) (v : Bool) :
    StoreLaw (s.setPlane k ((s.plane k).setBound p v)) := by
  cases p <;> exact h.setPlane k rfl Iff.rfl h.due

theorem StoreLaw.unbind {s : State} (h : StoreLaw s) (p : Port) : StoreLaw (s.unbind p) := by
  rw [State.unbind_eq]
  exact h.setBound _ p false

theorem Deed.storeLaw {s u : State} (h : Deed s u) (hs : StoreLaw s) : StoreLaw u := by
  cases h with
  | moves _ h => exact h.storeLaw hs
  | blank _ hb => exact hb.storeLaw
  | planeMade width height depth fill h first left hf hh ha hw =>
    obtain ⟨free, range, -⟩ := State.freeHandle_eq_some.mp hh
    refine hs.taken (.plane h) ha (planeBlocks_pos hf) (State.holding_of_free free) ?_ (State.setPlane_freeList ..)
      fun j => ?_
    · exact State.holding_setPlane (s := { s with freeList := left }) range _
    · show ((State.setPlane { s with freeList := left } h (newPlaneRecord width height depth first)).plane j).releaseDue =
        true → ((State.setPlane { s with freeList := left } h _).plane j).state = _
      rw [State.plane_setPlane _ j h _ range.1 range.2]
      split
      · nofun
      · exact hs.due
  | fontMade id blocks lineHeight fallback first left hid hb hf ha =>
    exact hs.taken (.font id) ha hb (State.holding_of_undefined hf)
      (State.holding_setFont (s := { s with freeList := left }) hid _) rfl hs.2.2
  | fontDropped id hid hd =>
    have is : (s.font id).state = .defined := by
      cases h : (s.font id).state with
      | undefined => exact absurd h hd
      | defined => rfl
    exact hs.returned (.font id) (State.holding_of_defined is) (State.holding_setFont (s := { s with
      glyphs := s.glyphs.filter (fun g => !(g.font == id))
      freeList := releaseExtent s.freeList (s.font id).extent }) hid undefinedFont) rfl hs.2.2
  | extentMoved x t _ hm h => exact h.storeLaw (hs.moveExtent hm)
  | queryClaimed q =>
    exact StoreLaw.portsOnly (s := s.occupy (.query q)) (hs.sameTables rfl rfl rfl) (.arbitrate _)
  | queried q id =>
    refine StoreLaw.portsOnly ?_ (.giveBack (s.queryResult q id))
    unfold State.queryResult
    split
    · exact (((hs.unbind q.port).setBound q.handle q.port true).portsOnly (.setPort _ _ _)).sameTables rfl rfl rfl
    · exact hs.sameTables rfl rfl rfl
  | portReleased p => exact (hs.unbind p).portsOnly (.setPort _ _ _)
  | streamEnded p u order =>
    have ended : StoreLaw (s.setPort p u) := hs.portsOnly (.setPort s p u)
    cases order
    · exact ((Moves.recheckHead _).storeLaw ended).portsOnly (.giveBack _)
    · exact (Moves.recheckHead _).storeLaw (ended.portsOnly (.giveBack _))

/-- Settles O58: the law is kept by every deed. -/
theorem storeStaysAccounted : Obligations.StoreStaysAccounted := by
  unfold Obligations.StoreStaysAccounted
  intro s t h
  refine step_keeps_of_deed (fun same hs => hs.sameTables ?_ ?_ ?_) (fun _ hs => hs) Deed.storeLaw h
  all_goals rw [same.1]

end Sys2Proof.Machine
end

section
/-! The laws of the notices, of the reply cache and of the intake slots (O56). -/

namespace Sys2Proof.Machine

set_option Elab.async false

/-! ## What an act does to the link -/

/-- What an act that an event brings leaves of the link: all of it, with the reply of the work in hand written, or with
work that has no slot in hand changed. -/
inductive LinkEffect (l : Link) : Link → Prop
  | same : LinkEffect l l
  | answered (r : Reply) : LinkEffect l { l with slots := l.slots.map (Slot.answer r), work := none }
  | reset (cache : List CacheEntry) (work : Option Work) (hc : cache = l.cache ∨ cache = [])
    (hl : ¬ l.work.map Work.keepsSlot = some true) : LinkEffect l { l with cache := cache, work := work }

theorem LinkEffect.of_eq {l m : Link} (h : m = l) : LinkEffect l m := h ▸ .same

theorem EngineOnly.linkEffect {s t : State} (h : EngineOnly s t) : LinkEffect s.link t.link := .of_eq h.link

theorem State.finishEngineReset_link (s : State) :
    s.finishEngineReset.link = { s.link with cache := [], work := none } := by
  have planes : EngineOnly s (allHandles.foldl State.resetPlane s) := .foldl _ .resetPlane _ s
  have kept := planes.link
  rw [State.finishEngineReset_eq]
  generalize allHandles.foldl State.resetPlane s = t at kept
  rw [← kept]
  rfl

theorem LinkEffect.finishEngineReset {s t : State} (h : EngineOnly s t)
    (hs : ¬ s.link.work.map Work.keepsSlot = some true) : LinkEffect s.link t.finishEngineReset.link := by
  rw [State.finishEngineReset_link, h.link]
  exact .reset [] none (.inr rfl) hs

/-- A reply written once the engine has acted. -/
theorem LinkEffect.answer {s t : State} (h : EngineOnly s t) (r : Reply) : LinkEffect s.link (t.answer r).link := by
  have is : (t.answer r).link = (s.answer r).link := by
    unfold State.answer
    rw [h.link]
  exact is ▸ .answered r

theorem LinkEffect.stopAtBoundary (s : State) (j : Job) : LinkEffect s.link (s.stopAtBoundary j).link := by
  unfold State.stopAtBoundary
  split
  · exact .answer ((EngineOnly.stopHead s j).trans (.examine _)) _
  · exact .answer (.stopHead s j) _
  · next hw => exact .finishEngineReset (.stopHeadForReset s j) (by rw [hw]; nofun)
  · exact .same

theorem LinkEffect.afterRow {s goesOn : State} (j : Job) (height : Nat) (st : Status) (h : goesOn.link = s.link) :
    LinkEffect s.link (s.afterRow j height st goesOn).link := by
  unfold State.afterRow
  split
  · exact .stopAtBoundary s j
  · split
    · exact ((EngineOnly.endHead s j st).trans (.examine _)).linkEffect
    · exact .of_eq h

theorem RowDrawn.link {s t goesOn : State} {j : Job} {height : Nat} (h : RowDrawn s j t height goesOn) :
    t.link = s.link ∧ goesOn.link = t.link := by
  cases h with
  | fill | block | text => exact ⟨rfl, rfl⟩
  | load =>
    refine ⟨rfl, ?_⟩
    unfold State.loadProceed
    split <;> rfl

theorem RowDrawn.linkEffect {s t goesOn : State} {j : Job} {height : Nat} (h : RowDrawn s j t height goesOn) (st : Status) :
    LinkEffect s.link (t.afterRow j.nextRow height st goesOn).link :=
  h.link.1 ▸ .afterRow j.nextRow height st h.link.2

theorem State.moveExtent_link (s : State) (x : OwnedExtent) (t : Nat) : (s.moveExtent x t).link = s.link := by
  rw [s.moveExtent_frame]

theorem LinkEffect.extentMoved (s : State) (j : Job) (x : OwnedExtent) (t : Nat) :
    LinkEffect s.link (s.extentMoved j x t).link := by
  have moved : ((s.moveExtent x t).setHead j.nextRow).link = s.link := s.moveExtent_link x t
  unfold State.extentMoved
  dsimp only
  rw [← moved]
  split
  · exact .stopAtBoundary _ _
  · split
    · exact ((EngineOnly.packProceed _ _).trans (.examine _)).linkEffect
    · exact (EngineOnly.packProceed _ _).linkEffect

theorem LinkEffect.beginEngineReset {s : State} (hw : s.link.work = some (.resetDue .engine)) :
    LinkEffect s.link s.beginEngineReset.link := by
  have flushed : EngineOnly s (s.flushWaiting true) := .depart s _ _ _
  have unkept : ¬ s.link.work.map Work.keepsSlot = some true := by rw [hw]; nofun
  unfold State.beginEngineReset
  dsimp only
  split
  · exact .finishEngineReset flushed unkept
  · next j _ _ =>
    split
    · exact .finishEngineReset (flushed.trans (.stopHeadForReset _ j)) unkept
    · have is : ((s.flushWaiting true).occupy .engineStopping).link = { s.link with work := some .engineStopping } := by
        unfold State.occupy
        rw [flushed.link]
      exact is ▸ .reset s.link.cache _ (.inl rfl) unkept

theorem LinkEffect.fullBegun {s : State} (hw : s.link.work = some (.resetDue .full)) :
    LinkEffect s.link s.fullBegun.link :=
  .reset s.link.cache (some .fullWaiting) (.inl rfl) (by rw [hw]; nofun)

theorem LinkEffect.endFill (s : State) (h : Nat) (v : Px) : LinkEffect s.link (s.endFill h v).link := by
  unfold State.endFill
  dsimp only
  rw [(EngineOnly.retryPack _).link]
  exact .answered _

theorem LinkEffect.queryResult (s : State) (q : PanelRequest) (id : Byte) :
    LinkEffect s.link (s.queryResult q id).giveBack.link := by
  rw [(PortsOnly.giveBack _).engine.link]
  unfold State.queryResult
  split
  · have kept : (s.configure q id.toNat).link = s.link := by
      unfold State.configure State.bind
      rw [State.setPort_link, State.setPlane_link, State.unbind_link]
    unfold State.answer
    rw [kept]
    exact .answered _
  · exact .answered _

/-! ## The notices -/

theorem PortsOnly.notices {s t : State} (h : PortsOnly s t) : t.notices = s.notices := h.keeps.2.2.2.2.2.2.2.1

theorem Move.noticeLaw {s t : State} (h : Move s t) (hs : NoticeLaw s.notices) : NoticeLaw t.notices := by
  cases h with
  | rest _ h => rw [h]; exact hs
  | push c => exact hs.push c
  | refCount | due | retire => rw [State.setPlane_notices]; exact hs
  | release => rw [State.releasePlane, State.setPlane_notices]; exact hs
  | port => rw [State.setPort_notices]; exact hs
  | claim p u => rw [(PortsOnly.arbitrate _).notices, State.setPort_notices]; exact hs
  | wake w => rw [(PortsOnly.wakePorts s w).notices]; exact hs
  | unlock | lock | freeHold | takeHold | link | font => exact hs

theorem Moves.noticeLaw {s t : State} (h : Moves s t) : NoticeLaw s.notices → NoticeLaw t.notices :=
  h.keeps (L := fun s => NoticeLaw s.notices) Move.noticeLaw

theorem Deed.noticeLaw {s u : State} (h : Deed s u) (hs : NoticeLaw s.notices) : NoticeLaw u.notices := by
  cases h with
  | moves _ h => exact h.noticeLaw hs
  | blank _ hb => exact hb.notices
  | planeMade => rw [State.occupy_notices, State.setPlane_notices]; exact hs
  | fontMade | fontDropped => exact hs
  | extentMoved x t _ _ h =>
    refine h.noticeLaw ?_
    rw [s.moveExtent_frame]
    exact hs
  | queryClaimed => rw [(PortsOnly.arbitrate _).notices]; exact hs
  | queried q id => rw [(PortsOnly.giveBack _).notices, s.queryResult_frame]; exact hs
  | portReleased p => rw [s.release_frame]; exact hs
  | streamEnded p u order =>
    have ended : NoticeLaw (s.setPort p u).notices := by rw [State.setPort_notices]; exact hs
    cases order
    · unfold State.afterStreaming
      rw [(PortsOnly.giveBack _).notices]
      exact (Moves.recheckHead _).noticeLaw ended
    · refine (Moves.recheckHead _).noticeLaw ?_
      rw [(PortsOnly.giveBack _).notices]
      exact ended

/-! ## The cache -/

theorem LinkEffect.cache {l m : Link} (h : LinkEffect l m) : m.cache = l.cache ∨ m.cache = [] := by
  cases h with
  | same | answered => exact .inl rfl
  | reset _ _ hc => exact hc

theorem Act.cache {s u : State} (h : Act s u) : u.link.cache = s.link.cache ∨ u.link.cache = [] := by
  have engine {t : State} (only : EngineOnly s t) : t.link.cache = s.link.cache ∨ t.link.cache = [] :=
    .inl (congrArg Link.cache only.link)
  cases h with
  | idle | work | patterns | fontMade | glyphAppended | fontDropped | fullReset => exact .inl rfl
  | blank _ hb => exact .inr hb.cache
  | planeMade =>
    refine .inl ?_
    show (State.setPlane _ _ _).link.cache = _
    rw [State.setPlane_link]
  | planeRetired => exact .inl (congrArg Link.cache (State.setPlane_link ..))
  | fillEnded h v => exact (LinkEffect.endFill s h v).cache
  | planeFreed h => exact engine (.releasePlane s h)
  | submitted b report =>
    split
    · exact .inl (congrArg Link.cache ((EngineOnly.examine _).link.trans (s.accept_link b report)))
    · exact .inl (congrArg Link.cache (s.accept_link b report))
  | waitingRemoved n j => exact engine (.removeWaiting s j)
  | runningStopped n j => exact engine ((EngineOnly.stopHead s j).trans (.examine _))
  | flushed => exact engine (.depart s _ _ _)
  | flushStopped j => exact engine ((EngineOnly.depart s _ _ _).trans (.stopHead _ j))
  | flushWaits =>
    have left : EngineOnly s (s.flushWaiting false) := .depart s _ _ _
    refine .inl ?_
    show (s.flushWaiting false).link.cache = _
    rw [left.link]
  | staged => exact .inl (congrArg Link.cache (State.afterStaging_link _))
  | rowEnded j rest t goesOn height st hj ha hd => exact (hd.linkEffect st).cache
  | timedOut j => exact engine ((EngineOnly.endHead s j _).trans (.examine _))
  | extentMoved j rest x t => exact (LinkEffect.extentMoved s j x t).cache
  | engineReset hw => exact (LinkEffect.beginEngineReset hw).cache
  | queryClaimed =>
    refine .inl ?_
    rw [(PortsOnly.arbitrate _).engine.link]
    rfl
  | queried q id => exact (LinkEffect.queryResult s q id).cache
  | portReleased p => exact .inl (congrArg Link.cache ((State.setPort_link ..).trans (s.unbind_link p)))
  | faultCleared p | transaction p => exact engine (PortsOnly.setPort s p _).engine
  | updated p set mark order | aborted p set mark order => exact engine (.portThenStreaming s p _ order)
  | lineRose p => exact .inl (congrArg Link.cache (State.setBusyLine_link ..))
  | lineFell p =>
    exact .inl (congrArg Link.cache ((EngineOnly.lineFallen _ p).link.trans (State.setBusyLine_link ..)))
  | busyExpired p => exact engine (.busyExpired s p)
  | holdOffExpired p =>
    exact engine ((PortsOnly.setPort s p _).trans (.holdOffExpired _ p)).engine

/-! ## The intake slots by their parts -/

/-- The laws of the slots, with at most so many in hand and so many replies begun. -/
structure SlotParts (slots : List Slot) (hand begun : Nat) : Prop where
  count : slots.length ≤ 4
  apart : slots.Pairwise (fun a b => ¬ a.tag = 0 → ¬ (a.tag = b.tag ∧ a.kind = b.kind))
  inHand : (slots.filter (·.inHand)).length ≤ hand
  isBegun : (slots.filter Slot.isBegun).length ≤ begun

/-- The number of slots in hand that a work allows. -/
def handOf (w : Option Work) : Nat := if w.map Work.keepsSlot = some true then 1 else 0

/-- The number of replies begun that the transmitter allows. -/
def begunOf (f : Option Sending) : Nat :=
  match f with
  | some (.reply _ _ _ _) => 1
  | some (.notice _ _ _) => 0
  | none => 0

theorem slotLaw_iff {l : Link} : SlotLaw l ↔ SlotParts l.slots (handOf l.work) (begunOf l.sending) := by
  constructor
  · rintro ⟨count, apart, inHand, isBegun⟩
    refine ⟨count, apart, inHand, ?_⟩
    unfold begunOf
    exact isBegun
  · rintro ⟨count, apart, inHand, isBegun⟩
    unfold begunOf at isBegun
    exact ⟨count, apart, inHand, isBegun⟩

theorem SlotParts.nil (hand begun : Nat) : SlotParts [] hand begun := ⟨Nat.zero_le _, .nil, Nat.zero_le _, Nat.zero_le _⟩

theorem SlotParts.mono {slots : List Slot} {hand hand' begun begun' : Nat} (h : SlotParts slots hand begun)
    (hh : hand ≤ hand') (hb : begun ≤ begun') : SlotParts slots hand' begun' :=
  ⟨h.count, h.apart, h.inHand.trans hh, h.isBegun.trans hb⟩

/-- A list filtered after a change that satisfies the test less often. -/
theorem filter_map_length_le {α : Type} (t : α → Bool) (f : α → α) (l : List α) (h : ∀ a, t (f a) = true → t a = true) :
    ((l.map f).filter t).length ≤ (l.filter t).length := by
  rw [← List.countP_eq_length_filter, ← List.countP_eq_length_filter, List.countP_map]
  exact List.countP_mono_left fun a _ => h a

/-- A change of slots that keeps tags and kinds, takes none in hand and begins no reply. -/
theorem SlotParts.map {slots : List Slot} {hand begun : Nat} (h : SlotParts slots hand begun) (f : Slot → Slot)
    (same : ∀ sl, (f sl).tag = sl.tag ∧ (f sl).kind = sl.kind) (inHand : ∀ sl, (f sl).inHand = true → sl.inHand = true)
    (isBegun : ∀ sl, (f sl).isBegun = true → sl.isBegun = true) : SlotParts (slots.map f) hand begun := by
  refine ⟨by rw [List.length_map]; exact h.count, List.pairwise_map.mpr (h.apart.imp fun {a b} hab => ?_),
    (filter_map_length_le _ f _ inHand).trans h.inHand, (filter_map_length_le _ f _ isBegun).trans h.isBegun⟩
  rw [(same a).1, (same a).2, (same b).1, (same b).2]
  exact hab

theorem Slot.answer_same (r : Reply) (sl : Slot) :
    (sl.answer r).tag = sl.tag ∧ (sl.answer r).kind = sl.kind ∧ (sl.answer r).inHand = false ∧
      ((sl.answer r).isBegun = true → sl.isBegun = true) := by
  unfold Slot.answer
  split
  · exact ⟨rfl, rfl, rfl, nofun⟩
  · next free => exact ⟨rfl, rfl, Bool.eq_false_iff.mpr free, id⟩

theorem SlotParts.answer {slots : List Slot} {hand begun : Nat} (h : SlotParts slots hand begun) (r : Reply) :
    SlotParts (slots.map (Slot.answer r)) 0 begun := by
  have answered := h.map (Slot.answer r) (fun sl => ⟨(sl.answer_same r).1, (sl.answer_same r).2.1⟩)
    (fun sl is => Bool.noConfusion ((sl.answer_same r).2.2.1.symm.trans is)) fun sl => (sl.answer_same r).2.2.2
  refine ⟨answered.count, answered.apart, ?_, answered.isBegun⟩
  rw [List.filter_eq_nil_iff.mpr]
  · exact Nat.le_refl _
  · intro sl hsl
    obtain ⟨old, -, rfl⟩ := List.mem_map.mp hsl
    rw [(old.answer_same r).2.2.1]
    nofun

theorem SlotParts.answerKept {slots : List Slot} {hand begun : Nat} (h : SlotParts slots hand begun) (r : Reply) :
    SlotParts (slots.map (Slot.answerKept r)) hand begun := by
  have same (sl : Slot) : (sl.answerKept r).tag = sl.tag ∧ (sl.answerKept r).kind = sl.kind ∧
      (sl.answerKept r).inHand = sl.inHand ∧ ((sl.answerKept r).isBegun = true → sl.isBegun = true) := by
    unfold Slot.answerKept
    split
    · exact ⟨rfl, rfl, rfl, nofun⟩
    · exact ⟨rfl, rfl, rfl, id⟩
  exact h.map _ (fun sl => ⟨(same sl).1, (same sl).2.1⟩) (fun sl is => (same sl).2.2.1 ▸ is) fun sl => (same sl).2.2.2

/-- A change of the first slot that satisfies a test, which keeps tags and kinds. -/
theorem SlotParts.updateFirst {slots : List Slot} {hand begun hand' begun' : Nat} (h : SlotParts slots hand begun)
    (t : Slot → Bool) (f : Slot → Slot) (same : ∀ sl, (f sl).tag = sl.tag ∧ (f sl).kind = sl.kind)
    (inHand : ∀ sl, t sl = true → hand + (f sl).inHand.toNat ≤ hand' + sl.inHand.toNat) (hh : hand ≤ hand')
    (isBegun : ∀ sl, t sl = true → begun + (f sl).isBegun.toNat ≤ begun' + sl.isBegun.toNat) (hb : begun ≤ begun') :
    SlotParts (updateFirst t f slots) hand' begun' := by
  cases found : slots.find? t with
  | none =>
    rw [updateFirst_none fun sl hsl => by simpa using List.find?_eq_none.mp found sl hsl]
    exact h.mono hh hb
  | some sl =>
    obtain ⟨front, back, rfl, before, is⟩ := exists_first found
    rw [updateFirst_split before is]
    obtain ⟨count, apart, hand0, begun0⟩ := h
    have counts (p : Slot → Bool) (x : Slot) : ((front ++ x :: back).filter p).length =
        (front.filter p).length + (p x).toNat + (back.filter p).length := by
      rw [List.filter_append, List.length_append, List.filter_cons]
      cases p x <;> simp
      omega
    rw [counts] at hand0 begun0
    have dh := inHand sl is
    have db := isBegun sl is
    refine ⟨?_, ?_, by rw [counts]; omega, by rw [counts]; omega⟩
    · rw [List.length_append, List.length_cons] at count ⊢
      exact count
    · rw [List.pairwise_append, List.pairwise_cons] at apart ⊢
      obtain ⟨first, ⟨head, tail⟩, cross⟩ := apart
      refine ⟨first, ⟨fun b hb => ?_, tail⟩, fun a ha b hb => ?_⟩
      · rw [(same sl).1, (same sl).2]
        exact head b hb
      · obtain rfl | hb := List.mem_cons.mp hb
        · rw [(same sl).1, (same sl).2]
          exact cross a ha sl List.mem_cons_self
        · exact cross a ha b (List.mem_cons_of_mem _ hb)

theorem SlotParts.take {slots : List Slot} {begun : Nat} (h : SlotParts slots 0 begun) :
    SlotParts (Machine.updateFirst Slot.isHeld (fun sl => { sl with inHand := true }) slots) 1 begun :=
  h.updateFirst _ _ (fun _ => ⟨rfl, rfl⟩) (fun sl _ => by simp) (Nat.zero_le _)
    (fun sl _ => by simp [Slot.isBegun]) (Nat.le_refl _)

theorem SlotParts.begin {slots : List Slot} {hand : Nat} (h : SlotParts slots hand 0) :
    SlotParts (Machine.updateFirst Slot.isReady Slot.begin slots) hand 1 := by
  refine h.updateFirst _ _ (fun sl => ?_) (fun sl _ => ?_) (Nat.le_refl _) (fun sl _ => ?_) (Nat.zero_le _)
  · unfold Slot.begin
    split <;> exact ⟨rfl, rfl⟩
  · have kept : sl.begin.inHand = sl.inHand := by
      unfold Slot.begin
      split <;> rfl
    rw [kept]
  · have := Bool.toNat_le sl.begin.isBegun
    omega

theorem SlotParts.arrive {l : Link} {hand begun : Nat} (h : SlotParts l.slots hand begun) (tag kind : Byte)
    (body : List Byte) : SlotParts (l.arrive tag kind body).slots hand begun := by
  have added (sl : Slot) (ht : sl.tag = tag) (hk : sl.kind = kind) (free : sl.inHand = false)
      (quiet : sl.isBegun = false) (room : l.slots.length < 4)
      (fresh : ¬ (tag ≠ 0 ∧ l.slots.any (fun sl => sl.sameRequest tag kind) = true)) :
      SlotParts (l.slots ++ [sl]) hand begun := by
    obtain ⟨count, apart, inHand, isBegun⟩ := h
    refine ⟨?_, List.pairwise_append.mpr ⟨apart, List.pairwise_singleton _ _, fun a ha b hb tagged => ?_⟩, ?_, ?_⟩
    · rw [List.length_append]
      exact room
    · rw [List.mem_singleton.mp hb, ht, hk]
      rintro ⟨st, sk⟩
      refine fresh ⟨st ▸ tagged, List.any_eq_true.mpr ⟨a, ha, ?_⟩⟩
      exact Slot.sameRequest_iff.mpr ⟨st, sk⟩
    · simpa [List.filter_append, free] using inHand
    · simpa [List.filter_append, quiet] using isBegun
  unfold Link.arrive
  split
  · exact h
  · next room =>
    split
    · exact h
    · next fresh =>
      have room : l.slots.length < 4 := Nat.not_le.mp room
      split
      · exact added _ rfl rfl rfl rfl room fresh
      · exact added _ rfl rfl rfl rfl room fresh

/-! ## The intake slots after every command -/

theorem SlotLaw.effect {l m : Link} (hl : SlotLaw l) (h : LinkEffect l m) : SlotLaw m := by
  rw [slotLaw_iff] at hl ⊢
  cases h with
  | same => exact hl
  | answered r => exact hl.answer r
  | reset cache work hc unkept =>
    have none : handOf l.work = 0 := if_neg unkept
    exact hl.mono (none ▸ Nat.zero_le _) (Nat.le_refl _)

theorem State.transmit_slotLaw {s : State} (h : SlotLaw s.link) : SlotLaw s.transmit.link := by
  rw [slotLaw_iff] at h ⊢
  unfold State.transmit
  split
  · exact h
  · next idle =>
    rw [idle] at h
    split
    · exact h.begin
    · unfold State.beginNotice
      split
      · rw [idle]
        exact h
      · exact h

theorem slotLaw_congr {l m : Link} (h : SlotLaw l) (slots : m.slots = l.slots) (work : m.work = l.work)
    (sending : m.sending = l.sending) : SlotLaw m := by
  rw [slotLaw_iff] at h ⊢
  rw [slots, work, sending]
  exact h

theorem Replied.slotLaw {s t : State} (h : Replied s t) (hs : SlotParts s.link.slots 1 (begunOf s.link.sending)) :
    SlotLaw t.link := by
  rw [slotLaw_iff]
  obtain ⟨r, is⟩ | ⟨w, keeps, is⟩ | ⟨k, is⟩ := h <;> rw [is]
  · exact hs.answer r
  · have one : handOf (some w) = 1 := if_pos (congrArg some keeps)
    exact one.symm ▸ hs
  · exact hs.answerKept _

theorem RuleActs.slotLaw {f : List Byte → State → State} (hf : RuleActs f) (s : State) (test : Byte → Bool)
    (hs : SlotLaw s.link) : SlotLaw (s.serveWhere test f).link := by
  obtain none | ⟨b, hw, done⟩ := serveWhere_cases s test f
  · exact none.symm ▸ hs
  · obtain ⟨u, -, -, replied⟩ := hf b s.takeRequest hw
    rw [done]
    refine State.transmit_slotLaw (replied.slotLaw ?_)
    rw [slotLaw_iff] at hs
    have free : handOf s.link.work = 0 := by
      rw [show s.link.work = none from hw]
      rfl
    rw [free] at hs
    exact hs.take

/-- Where at most one element satisfies a test, that one is what `eraseP` takes out. -/
theorem eraseP_only {α : Type} {t : α → Bool} {l : List α} (once : (l.filter t).length ≤ 1) {a : α} (ha : a ∈ l)
    (ta : t a = true) : ∃ front back, l = front ++ a :: back ∧ l.eraseP t = front ++ back := by
  obtain ⟨x, front, back, -, tx, split, erased⟩ := List.exists_of_eraseP ha ta
  have hx : x ∈ l := split ▸ List.mem_append_right _ List.mem_cons_self
  have both : a ∈ l.filter t ∧ x ∈ l.filter t := ⟨List.mem_filter.mpr ⟨ha, ta⟩, List.mem_filter.mpr ⟨hx, tx⟩⟩
  obtain rfl : a = x := by
    match l.filter t, once, both with
    | [y], _, ⟨h, k⟩ => exact (List.mem_singleton.mp h).trans (List.mem_singleton.mp k).symm
  exact ⟨front, back, split, erased⟩

/-- A begun reply's frame ends: its slot, the only one begun, goes. -/
theorem Link.replySent_slotLaw {l : Link} {tag kind : Byte} {r : Reply} {flags : LinkFlags}
    (hs : l.sending = some (.reply tag kind r flags)) (law : SlotLaw l) : SlotLaw (l.replySent tag kind r) := by
  rw [slotLaw_iff, hs] at law
  obtain ⟨count, apart, inHand, isBegun⟩ := law
  have sub : (l.slots.eraseP Slot.isBegun).Sublist l.slots := List.eraseP_sublist
  have quiet : ((l.slots.eraseP Slot.isBegun).filter Slot.isBegun).length = 0 := by
    cases found : l.slots.find? Slot.isBegun with
    | none =>
      have none : ∀ sl ∈ l.slots, ¬ sl.isBegun = true := List.find?_eq_none.mp found
      rw [List.filter_eq_nil_iff.mpr fun sl h => none sl (sub.mem h)]
      rfl
    | some sl =>
      obtain ⟨front, back, split, before, is⟩ := exists_first found
      rw [split] at isBegun ⊢
      rw [List.eraseP_append_right _ fun x hx => by simp [before x hx], List.eraseP_cons_of_pos is]
      rw [List.filter_append, List.filter_cons_of_pos is, List.length_append, List.length_cons] at isBegun
      rw [List.filter_append, List.length_append]
      simp only [begunOf] at isBegun
      omega
  have kept : SlotParts (l.slots.eraseP Slot.isBegun) (handOf l.work) 0 :=
    ⟨sub.length_le.trans count, apart.sublist sub, ((sub.filter _).length_le).trans inHand, quiet.le⟩
  rw [slotLaw_iff]
  show SlotParts (l.slots.eraseP Slot.isBegun) (handOf l.workAfterReply) 0
  by_cases hr : l.sentInHand = false ∨ ∀ k, ¬ l.work = some (.resetReply k)
  · rw [Link.workAfterReply_eq hr]
    exact kept
  · push Not at hr
    obtain ⟨sent, k, hk⟩ := hr
    have sent : l.sentInHand = true := by simpa using sent
    rw [Link.workAfterReply_reset hk sent]
    refine ⟨kept.count, kept.apart, ?_, kept.isBegun⟩
    obtain ⟨sl, hsl, both⟩ := List.any_eq_true.mp sent
    obtain ⟨begun, held⟩ := Bool.and_eq_true_iff.mp both
    obtain ⟨front, back, split, erased⟩ := eraseP_only isBegun hsl begun
    have heldOnce : (l.slots.filter (·.inHand)).length ≤ 1 := by
      rw [hk] at inHand
      exact inHand
    rw [erased]
    rw [split, List.filter_append, List.filter_cons_of_pos (p := fun sl : Slot => sl.inHand) held, List.length_append, List.length_cons] at heldOnce
    rw [List.filter_append, List.length_append]
    exact (by omega : _ = 0).le

/-- An answer that keeps the laws of the intake slots. -/
def KeepsSlots (s : State) (o : Result) : Prop := ∃ t, o = .next t ∧ (SlotLaw s.link → SlotLaw t.link)

theorem KeepsSlots.effect {s t : State} (h : LinkEffect s.link t.link) : KeepsSlots s (.next t) :=
  ⟨t, rfl, fun law => law.effect h⟩

theorem KeepsSlots.idle (s : State) : KeepsSlots s (.next s) := .effect .same

theorem KeepsSlots.transmit {s t : State} (h : LinkEffect s.link t.link) : KeepsSlots s (.next t.transmit) :=
  ⟨_, rfl, fun law => State.transmit_slotLaw (law.effect h)⟩

theorem KeepsSlots.request {f : List Byte → State → State} (hf : RuleActs f) (s : State) (test : Byte → Bool) :
    KeepsSlots s (.next (s.serveWhere test f)) := ⟨_, rfl, hf.slotLaw s test⟩

theorem State.Blank.slotLaw {s : State} (b : s.Blank) : SlotLaw s.link := by
  rw [slotLaw_iff, b.slots]
  exact .nil _ _

/-- A FULL reset that waits keeps the laws of the slots, whether it takes effect or not. -/
theorem State.tryFullReset_slotLaw {s : State} (h : SlotLaw s.link) : SlotLaw s.tryFullReset.link := by
  obtain waits | done := s.tryFullReset_cases
  · exact waits.symm ▸ h
  · exact done.symm ▸ s.fullResetDone_blank.slotLaw

theorem KeepsSlots.tryFullReset {s t : State} (h : LinkEffect s.link t.link) :
    KeepsSlots s (.next t.tryFullReset.transmit) :=
  ⟨_, rfl, fun law => State.transmit_slotLaw (State.tryFullReset_slotLaw (law.effect h))⟩

theorem State.takeByte_slotLaw {s : State} (b : Byte) (h : SlotLaw s.link) : SlotLaw (s.takeByte b).link := by
  have kept {m : Link} (slots : m.slots = s.link.slots) (work : m.work = s.link.work)
      (sending : m.sending = s.link.sending) : SlotLaw m := slotLaw_congr h slots work sending
  have judged (kind tag : Byte) (body : List Byte) (hi lo : Byte) : SlotLaw (s.judge kind tag body hi lo).link := by
    unfold State.judge
    split
    · exact kept rfl rfl rfl
    · split
      · exact kept rfl rfl rfl
      · have parts := slotLaw_iff.mp h
        have arrived := SlotParts.arrive (l := (s.setReceiver .hunt).link) parts tag kind body
        have same : ((s.setReceiver .hunt).link.arrive tag kind body).work = s.link.work ∧
            ((s.setReceiver .hunt).link.arrive tag kind body).sending = s.link.sending := by
          unfold Link.arrive
          repeat' split
          all_goals exact ⟨rfl, rfl⟩
        rw [slotLaw_iff]
        show SlotParts _ (handOf ((s.setReceiver .hunt).link.arrive tag kind body).work)
          (begunOf ((s.setReceiver .hunt).link.arrive tag kind body).sending)
        rw [same.1, same.2]
        exact arrived
  unfold State.takeByte
  split
  · split <;> exact kept rfl rfl rfl
  · exact kept rfl rfl rfl
  · split <;> exact kept rfl rfl rfl
  · exact kept rfl rfl rfl
  · exact kept rfl rfl rfl
  · exact kept rfl rfl rfl
  · exact kept rfl rfl rfl
  · exact judged ..

section Events

variable (s : State)

theorem KeepsSlots.powerOnReset (rate1 rate0 : Bool) : KeepsSlots s (exec (.powerOnReset rate1 rate0) s) :=
  ⟨_, rfl, fun _ => (s.poweredOn_blank rate1 rate0).slotLaw⟩

theorem KeepsSlots.byteReceived (b : Byte) (good : Bool) : KeepsSlots s (exec (.byteReceived b good) s) := by
  show KeepsSlots s (execByteReceived b good s)
  unfold execByteReceived
  split
  · exact ⟨_, rfl, fun law => State.transmit_slotLaw (State.takeByte_slotLaw b law)⟩
  · exact ⟨_, rfl, fun law => slotLaw_congr law rfl rfl rfl⟩

theorem KeepsSlots.frameReceived (check : Byte) : KeepsSlots s (exec (.frameReceived check) s) := by
  show KeepsSlots s (execFrameReceived check s)
  unfold execFrameReceived
  split
  · next kind tag body hi hr =>
    have taken : s.takeByte check = s.judge kind tag body hi check := by rw [State.takeByte, hr]
    exact ⟨_, rfl, fun law => taken ▸ State.transmit_slotLaw (State.takeByte_slotLaw check law)⟩
  · exact .idle s

theorem KeepsSlots.frameGapTimeout : KeepsSlots s (exec .frameGapTimeout s) := by
  show KeepsSlots s (execFrameGapTimeout s)
  unfold execFrameGapTimeout
  split
  · exact .idle s
  · exact ⟨_, rfl, fun law => slotLaw_congr law rfl rfl rfl⟩

theorem KeepsSlots.linkBreak : KeepsSlots s (exec .linkBreak s) :=
  ⟨_, rfl, fun _ => State.transmit_slotLaw (State.tryFullReset_slotLaw (slotLaw_iff.mpr (.nil _ _)))⟩

theorem KeepsSlots.replyFrameSent (order : ReplyEndOrder) : KeepsSlots s (exec (.replyFrameSent order) s) := by
  show KeepsSlots s (execReplyFrameSent order s)
  unfold execReplyFrameSent
  split
  · next tag kind r flags hs =>
    refine ⟨_, rfl, fun law => ?_⟩
    have sent : SlotLaw (State.tryFullReset (s.replyEnded tag kind r)).link :=
      State.tryFullReset_slotLaw (Link.replySent_slotLaw hs law)
    unfold State.chooseAfterReply
    split
    · exact sent
    · exact State.transmit_slotLaw sent
  · exact .idle s

theorem KeepsSlots.noticeFrameSent : KeepsSlots s (exec .noticeFrameSent s) := by
  show KeepsSlots s (execNoticeFrameSent s)
  unfold execNoticeFrameSent
  split
  · next hs =>
    refine ⟨_, rfl, fun law => State.transmit_slotLaw (State.tryFullReset_slotLaw ?_)⟩
    rw [slotLaw_iff, hs] at law
    exact slotLaw_iff.mpr law
  · exact .idle s

theorem KeepsSlots.retransmissionTimerExpiry : KeepsSlots s (exec .retransmissionTimerExpiry s) := by
  show KeepsSlots s (execRetransmissionTimerExpiry s)
  unfold execRetransmissionTimerExpiry
  split
  · exact .transmit .same
  · exact .idle s

theorem KeepsSlots.newPlaneFillEnd : KeepsSlots s (exec .newPlaneFillEnd s) := by
  show KeepsSlots s (execNewPlaneFillEnd s)
  unfold execNewPlaneFillEnd
  split
  · exact .transmit (.endFill s _ _)
  · exact .idle s

theorem KeepsSlots.engineReset : KeepsSlots s (exec .engineReset s) := by
  show KeepsSlots s (execEngineReset s)
  unfold execEngineReset
  split
  · next hw => exact .transmit (.beginEngineReset hw)
  · exact .idle s

theorem KeepsSlots.fullReset : KeepsSlots s (exec .fullReset s) := by
  show KeepsSlots s (execFullReset s)
  unfold execFullReset
  split
  · next hw => exact .tryFullReset (t := s.fullBegun) (.fullBegun hw)
  · exact .idle s

/-- The end of a row, which is one of the acts, does to the link what its job's end or stop does. -/
theorem KeepsSlots.rowEnd {j : Job} {t goesOn : State} {height : Nat} (hd : RowDrawn s j t height goesOn) (st : Status) :
    KeepsSlots s (.next (t.afterRow j.nextRow height st goesOn).transmit) := .transmit (hd.linkEffect st)

theorem KeepsSlots.fillRowEnd : KeepsSlots s (exec .fillRowEnd s) := by
  show KeepsSlots s (execFillRowEnd s)
  unfold execFillRowEnd
  split
  · exact .idle s
  · split
    · next d _ hb => exact .rowEnd s (.fill d hb) .ok
    · exact .idle s

theorem KeepsSlots.blockRowEnd : KeepsSlots s (exec .blockRowEnd s) := by
  show KeepsSlots s (execBlockRowEnd s)
  unfold execBlockRowEnd
  split
  · exact .idle s
  · split
    · next d _ _ _ _ hb => exact .rowEnd s (.block d _ _ _ hb) .ok
    · exact .idle s

theorem KeepsSlots.loadRowEnd : KeepsSlots s (exec .loadRowEnd s) := by
  show KeepsSlots s (execLoadRowEnd s)
  unfold execLoadRowEnd
  split
  · exact .idle s
  · split
    · next h r fn _ _ _ hb => exact .rowEnd s (.load h r fn _ _ hb) .ok
    · exact .idle s

theorem KeepsSlots.textRowEnd : KeepsSlots s (exec .textRowEnd s) := by
  show KeepsSlots s (execTextRowEnd s)
  unfold execTextRowEnd
  split
  · next j rest hold hj hh =>
    split
    · next h _ _ _ ink fn _ _ hb => exact .rowEnd s (.text h _ _ _ ink fn _ hold hb hh) _
    · exact .idle s
  · exact .idle s

theorem KeepsSlots.dataTimeout : KeepsSlots s (exec .dataTimeout s) := by
  show KeepsSlots s (execDataTimeout s)
  unfold execDataTimeout
  split
  · exact .idle s
  · next j _ _ =>
    split
    · exact .transmit ((EngineOnly.endHead s j _).trans (.examine _)).linkEffect
    · exact .idle s

theorem KeepsSlots.extentMove : KeepsSlots s (exec .extentMove s) := by
  show KeepsSlots s (execExtentMove s)
  unfold execExtentMove
  split
  · split
    · exact .transmit (.extentMoved s _ _ _)
    · exact .idle s
  · exact .idle s

theorem KeepsSlots.query (id : Byte) : KeepsSlots s (exec (.query id) s) := by
  show KeepsSlots s (execQuery id s)
  unfold execQuery
  split
  · exact .transmit (.queryResult s _ id)
  · exact .idle s

theorem KeepsSlots.window : KeepsSlots s (exec .window s) := by
  show KeepsSlots s (execWindow s)
  unfold execWindow
  split
  · exact .effect (PortsOnly.setPort s _ _).engine.linkEffect
  · exact .idle s

theorem KeepsSlots.pixels : KeepsSlots s (exec .pixels s) := by
  show KeepsSlots s (execPixels s)
  unfold execPixels
  split
  · exact .effect (PortsOnly.setPort s _ _).engine.linkEffect
  · exact .idle s

theorem KeepsSlots.update (order : BoundaryOrder) : KeepsSlots s (exec (.update order) s) := by
  show KeepsSlots s (execUpdate order s)
  unfold execUpdate
  split
  · exact .tryFullReset (EngineOnly.portThenStreaming s _ _ order).linkEffect
  · exact .idle s

theorem KeepsSlots.abort (order : BoundaryOrder) : KeepsSlots s (exec (.abort order) s) := by
  show KeepsSlots s (execAbort order s)
  unfold execAbort
  split
  · exact .tryFullReset (EngineOnly.portThenStreaming s _ _ order).linkEffect
  · exact .idle s

theorem KeepsSlots.busyLineFall (p : Port) : KeepsSlots s (exec (.busyLineFall p) s) := by
  show KeepsSlots s (execBusyLineFall p s)
  unfold execBusyLineFall
  split
  · exact .transmit (.of_eq ((EngineOnly.lineFallen _ p).link.trans (State.setBusyLine_link ..)))
  · exact .idle s

theorem KeepsSlots.busyTimerExpiry (p : Port) : KeepsSlots s (exec (.busyTimerExpiry p) s) := by
  show KeepsSlots s (execBusyTimerExpiry p s)
  unfold execBusyTimerExpiry
  split
  · exact .transmit (EngineOnly.busyExpired s p).linkEffect
  · exact .idle s

theorem KeepsSlots.holdOffTimerExpiry (p : Port) : KeepsSlots s (exec (.holdOffTimerExpiry p) s) := by
  show KeepsSlots s (execHoldOffTimerExpiry p s)
  unfold execHoldOffTimerExpiry
  split
  · exact .transmit ((PortsOnly.setPort s p _).trans (.holdOffExpired _ p)).engine.linkEffect
  · exact .idle s

end Events

/-- Every command keeps the laws of the intake slots. -/
theorem exec_keepsSlots (c : Instr) (s : State) : KeepsSlots s (exec c s) := by
  cases c with
  | frameReceived check => exact .frameReceived s check
  | frameGapTimeout => exact .frameGapTimeout s
  | linkBreak => exact .linkBreak s
  | powerOnReset rate1 rate0 => exact .powerOnReset s rate1 rate0
  | unknownKind => exact .request (fun _ _ hw => refuse_acts hw _) s _
  | ping => exact .request RuleActs.ping s _
  | reset => exact .request (RuleActs.resetRequest.fixedLength 1) s _
  | engineReset => exact .engineReset s
  | fullReset => exact .fullReset s
  | ack => exact .request (RuleActs.ackRequest.fixedLength 1) s _
  | resync => exact .request (RuleActs.resync.fixedLength 0) s _
  | newPlane => exact .request (RuleActs.newPlane.fixedLength 6) s _
  | newPlaneFillEnd => exact .newPlaneFillEnd s
  | freePlane => exact .request (RuleActs.freePlane.fixedLength 1) s _
  | planeInfo => exact .request (RuleActs.planeInfo.fixedLength 1) s _
  | storeInfo => exact .request (RuleActs.storeInfo.fixedLength 0) s _
  | setPattern => exact .request (RuleActs.setPattern.fixedLength 17) s _
  | getPattern => exact .request (RuleActs.getPattern.fixedLength 1) s _
  | submit => exact .request RuleActs.submit s _
  | cancel => exact .request (RuleActs.cancel.fixedLength 2) s _
  | flush => exact .request (RuleActs.flush.fixedLength 0) s _
  | queueInfo => exact .request RuleActs.queueInfo s _
  | data => exact .request RuleActs.dataRequest s _
  | fillRowEnd => exact .fillRowEnd s
  | blockRowEnd => exact .blockRowEnd s
  | loadRowEnd => exact .loadRowEnd s
  | textRowEnd => exact .textRowEnd s
  | dataTimeout => exact .dataTimeout s
  | extentMove => exact .extentMove s
  | newFont => exact .request (RuleActs.newFont.fixedLength 5) s _
  | glyph => exact .request RuleActs.glyphRequest s _
  | dropFont => exact .request (RuleActs.dropFontRequest.fixedLength 1) s _
  | fontInfo => exact .request (RuleActs.fontInfo.fixedLength 1) s _
  | configurePanel => exact .request (RuleActs.configurePanel.fixedLength 17) s _
  | releasePanel => exact .request (RuleActs.releasePanel.fixedLength 1) s _
  | clearFault => exact .request (RuleActs.clearFault.fixedLength 1) s _
  | panelInfo => exact .request (RuleActs.panelInfo.fixedLength 1) s _
  | query id => exact .query s id
  | window => exact .window s
  | pixels => exact .pixels s
  | update order => exact .update s order
  | abort order => exact .abort s order
  | busyLineFall p => exact .busyLineFall s p
  | busyTimerExpiry p => exact .busyTimerExpiry s p
  | holdOffTimerExpiry p => exact .holdOffTimerExpiry s p
  | replyFrameSent order => exact .replyFrameSent s order
  | noticeFrameSent => exact .noticeFrameSent s
  | retransmissionTimerExpiry => exact .retransmissionTimerExpiry s
  | byteReceived b good => exact .byteReceived s b good
  | busyLineRise p => exact .effect (.of_eq (State.setBusyLine_link ..))

/-! ## The obligation -/

/-- Settles O56: the notice unit's operations keep its laws one by one (`Deed.noticeLaw`), the cache is only entered or
emptied, and each command answers the slot in hand, begins one reply or frees the one begun. -/
theorem linkAndNoticesKeepTheirLaws : Obligations.LinkAndNoticesKeepTheirLaws := by
  unfold Obligations.LinkAndNoticesKeepTheirLaws
  intro s t h
  refine ⟨fun law => ?_, fun law => ?_, fun law => ?_⟩
  · exact step_keeps_of_deed (L := fun s => NoticeLaw s.notices) (fun same => same.notices) (fun _ law => law)
      Deed.noticeLaw h law
  · refine step_keeps (L := fun s => CacheLaw s.link.cache) (fun same => same.cache) (fun _ law => law) (fun act law => ?_)
      h law
    obtain kept | empty := act.cache
    · exact kept.symm ▸ law
    · exact empty.symm ▸ .nil
  · unfold step at h
    split at h
    · cases h
      exact law
    · next c rest _ =>
      obtain ⟨t', ht, keeps⟩ := exec_keepsSlots c { s with pending := rest }
      obtain rfl := Host.Outcome.next.inj (h.symm.trans ht)
      exact keeps law

end Sys2Proof.Machine
end

section
/-! What a departure does to the plane table (O30), and what PACK's winding up releases. -/

namespace Sys2Proof.Machine

set_option Elab.async false

/-! ## Planes released in a row -/

/-- `t` is `s` with the planes of `rel` released in this order, each with its notice. -/
structure Released (s : State) (rel : List Nat) (t : State) : Prop where
  table : TableOnly s t
  freeList : t.freeList = rel.foldl (fun l h => releaseExtent l (s.plane h).extent) s.freeList
  notices : t.notices = rel.foldl (fun u h => u.push (.planeReleased h)) s.notices
  plane : ∀ h, t.plane h = if h ∈ rel then freePlaneRecord else s.plane h

theorem State.releasePlane_plane (s : State) (k h : Nat) :
    (s.releasePlane k).plane h = if h = k then freePlaneRecord else s.plane h := by
  unfold State.releasePlane
  by_cases hk : 1 ≤ k ∧ k ≤ 24
  · rw [State.plane_setPlane _ h k _ hk.1 hk.2]
    rfl
  · rw [State.plane_setPlane_outside _ h k _ (by omega)]
    split
    · next e => exact e ▸ State.plane_outside s k (by omega)
    · rfl

theorem State.releasePlane_freeList (s : State) (h : Nat) :
    (s.releasePlane h).freeList = releaseExtent s.freeList (s.plane h).extent := State.setPlane_freeList ..

theorem State.releasePlane_notices (s : State) (h : Nat) : (s.releasePlane h).notices = s.notices :=
  State.setPlane_notices ..

theorem TableOnly.keeps {s t : State} (h : TableOnly s t) : t.jobs = s.jobs ∧ t.layoutLock = s.layoutLock := by
  rw [h]
  exact ⟨rfl, rfl⟩

/-- A row of steps that each release a plane whose record passes a test releases, in their order, the planes that pass it
at first. -/
theorem released_foldl {jobs : List Job} {f : State → Nat → State} {p : Plane → Bool}
    (hf : ∀ t : State, ∀ h, t.jobs = jobs → f t h = if p (t.plane h) = true then t.releaseWithNotice h else t) {l : List Nat}
    (once : l.Nodup) {s : State} (hs : s.jobs = jobs) : Released s (l.filter (fun h => p (s.plane h))) (l.foldl f s) := by
  induction l generalizing s with
  | nil => exact ⟨.refl s, rfl, rfl, fun h => (if_neg nofun).symm⟩
  | cons k l ih =>
    obtain ⟨fresh, once⟩ := List.nodup_cons.mp once
    rw [List.foldl_cons, hf s k hs, List.filter_cons]
    cases hp : p (s.plane k) with
    | false => exact ih once hs
    | true =>
      have table : TableOnly s (s.releaseWithNotice k) := .releaseWithNotice s k
      have others : ∀ h ∈ l, (s.releaseWithNotice k).plane h = s.plane h := fun h hh => by
        refine (s.releasePlane_plane k h).trans (if_neg ?_)
        rintro rfl
        exact fresh hh
      have same : l.filter (fun h => p ((s.releaseWithNotice k).plane h)) = l.filter (fun h => p (s.plane h)) :=
        List.filter_congr fun h hh => by rw [others h hh]
      obtain ⟨later, freeList, notices, plane⟩ := ih once (table.keeps.1.trans hs)
      rw [same] at freeList notices plane
      refine ⟨table.trans later, ?_, ?_, fun h => ?_⟩
      · refine freeList.trans ?_
        rw [if_pos rfl, List.foldl_cons]
        show (l.filter _).foldl _ (s.releasePlane k).freeList = _
        rw [s.releasePlane_freeList]
        exact List.foldl_ext _ _ _ fun a h hh => by rw [others h (List.mem_of_mem_filter hh)]
      · refine notices.trans ?_
        rw [if_pos rfl, List.foldl_cons]
        show (l.filter _).foldl _ ((s.releasePlane k).notices.push _) = _
        rw [s.releasePlane_notices]
      · refine (plane h).trans ?_
        rw [if_pos rfl]
        show (if _ then _ else (s.releasePlane k).plane h) = _
        rw [s.releasePlane_plane]
        by_cases e : h = k
        · rw [e, if_pos rfl, if_pos List.mem_cons_self, ite_self]
        · rw [if_neg e]
          by_cases m : h ∈ l.filter (fun h => p (s.plane h))
          · rw [if_pos m, if_pos (List.mem_cons_of_mem _ m)]
          · rw [if_neg m, if_neg fun hm => m ((List.mem_cons.mp hm).resolve_left e)]

/-! ## The ref counts -/

theorem State.plane_lowerRef (s : State) (k h : Nat) :
    (s.lowerRef k).plane h = { s.plane h with refCount := (s.plane h).refCount - if h = k then 1 else 0 } := by
  unfold State.lowerRef
  by_cases hk : 1 ≤ k ∧ k ≤ 24
  · rw [State.plane_setPlane _ h k _ hk.1 hk.2]
    split
    · next e => rw [e]
    · rfl
  · rw [State.plane_setPlane_outside _ h k _ (by omega)]
    split
    · next e =>
      rw [e, State.plane_outside s k (by omega)]
      rfl
    · rfl

theorem plane_foldl_lowerRef (l : List Nat) (s : State) (h : Nat) :
    (l.foldl State.lowerRef s).plane h = { s.plane h with refCount := (s.plane h).refCount - l.count h } := by
  induction l generalizing s with
  | nil => rfl
  | cons k l ih =>
    rw [List.foldl_cons, ih, State.plane_lowerRef, List.count_cons]
    have same : (if (k == h) = true then 1 else 0) = if h = k then 1 else 0 := if_congr (by rw [beq_iff_eq, eq_comm]) rfl rfl
    rw [same, Nat.add_comm, ← Nat.sub_sub]

/-- A job names a plane once. -/
theorem JobBody.planes_count (b : JobBody) (h : Nat) : b.planes.count h = if b.planes.contains h = true then 1 else 0 := by
  have once : b.planes.Nodup := by
    cases b with
    | block d src sx sy =>
      show (if src = d.dest then [d.dest] else [d.dest, src]).Nodup
      split
      · exact List.nodup_singleton _
      · next ne => simpa using fun e => ne e.symm
    | fill | load | text => exact List.nodup_singleton _
    | showPort | pack | mark => exact List.nodup_nil
  split
  · next m => exact List.count_eq_one_of_mem once (by simpa using m)
  · next m => exact List.count_eq_zero_of_not_mem (by simpa using m)

theorem namedPlanes_count (gone : List Job) (h : Nat) :
    (namedPlanes gone).count h = (gone.filter (fun j => j.names h)).length := by
  induction gone with
  | nil => rfl
  | cons j gone ih =>
    have cons : namedPlanes (j :: gone) = j.body.planes ++ namedPlanes gone := rfl
    rw [cons, List.count_append, ih, JobBody.planes_count, List.filter_cons]
    show (if j.names h = true then 1 else 0) + _ = _
    split
    · rw [List.length_cons, Nat.add_comm]
    · exact Nat.zero_add _

theorem State.lowerRefs_plane (s : State) (gone : List Job) (h : Nat) :
    (s.lowerRefs gone).plane h =
      { s.plane h with refCount := (s.plane h).refCount - (gone.filter (fun j => j.names h)).length } := by
  rw [← namedPlanes_count]
  exact plane_foldl_lowerRef _ s h

theorem State.lowerRefs_table (s : State) (gone : List Job) :
    s.lowerRefs gone = { s with planes := (s.lowerRefs gone).planes } := by
  have each (l : List Nat) (t : State) : l.foldl State.lowerRef t = { t with planes := (l.foldl State.lowerRef t).planes } := by
    induction l generalizing t with
    | nil => rfl
    | cons k l ih =>
      have first : t.lowerRef k = { t with planes := (t.lowerRef k).planes } := by
        unfold State.lowerRef State.setPlane
        split <;> rfl
      rw [List.foldl_cons]
      have rest := ih (t.lowerRef k)
      rw [first] at rest
      rw [first]
      exact rest
  exact each _ s

/-! ## The references ended -/

/-- The planes that a row of put-off releases marks. -/
theorem due_foldl {jobs : List Job} {f : State → Nat → State} {p : Plane → Bool}
    (hf : ∀ t : State, ∀ h, t.jobs = jobs →
      f t h = if p (t.plane h) = true then t.setPlane h { t.plane h with releaseDue := true } else t)
    {l : List Nat} (once : l.Nodup) (inTable : ∀ h ∈ l, 1 ≤ h ∧ h ≤ 24) {s : State} (hs : s.jobs = jobs) :
    l.foldl f s = { s with planes := (l.foldl f s).planes } ∧
      ∀ h, (l.foldl f s).plane h =
        if h ∈ l.filter (fun h => p (s.plane h)) then { s.plane h with releaseDue := true } else s.plane h := by
  induction l generalizing s with
  | nil => exact ⟨rfl, fun h => (if_neg nofun).symm⟩
  | cons k l ih =>
    obtain ⟨fresh, once⟩ := List.nodup_cons.mp once
    have inTail : ∀ h ∈ l, 1 ≤ h ∧ h ≤ 24 := fun h hh => inTable h (List.mem_cons_of_mem _ hh)
    rw [List.foldl_cons, hf s k hs, List.filter_cons]
    cases hp : p (s.plane k) with
    | false => exact ih once inTail hs
    | true =>
      have set : s.setPlane k { s.plane k with releaseDue := true } =
          { s with planes := (s.setPlane k { s.plane k with releaseDue := true }).planes } := by
        unfold State.setPlane
        split <;> rfl
      have marked (h : Nat) : (s.setPlane k { s.plane k with releaseDue := true }).plane h =
          if h = k then { s.plane k with releaseDue := true } else s.plane h :=
        State.plane_setPlane s h k _ (inTable k List.mem_cons_self).1 (inTable k List.mem_cons_self).2
      have same : l.filter (fun h => p ((s.setPlane k { s.plane k with releaseDue := true }).plane h)) =
          l.filter (fun h => p (s.plane h)) :=
        List.filter_congr fun h hh => by
          rw [marked, if_neg]
          rintro rfl
          exact fresh hh
      obtain ⟨table, plane⟩ := ih once inTail ((State.setPlane_jobs ..).trans hs)
      rw [same] at plane
      refine ⟨?_, fun h => (plane h).trans ?_⟩
      · rw [if_pos rfl]
        rw [set] at table ⊢
        exact table
      · rw [if_pos rfl, marked]
        by_cases e : h = k
        · have out : k ∉ l.filter (fun h => p (s.plane h)) := fun m => fresh (List.mem_of_mem_filter m)
          rw [e, if_pos rfl, if_neg out, if_pos List.mem_cons_self]
        · rw [if_neg e]
          exact if_congr ⟨List.mem_cons_of_mem _, fun m => (List.mem_cons.mp m).resolve_left e⟩ rfl rfl

theorem allHandles_nodup : allHandles.Nodup := List.nodup_range'

/-- The planes whose release a departure brings: RETIRING ones whose last reference goes with it. -/
def State.lastGone (s : State) (gone : List Job) (h : Nat) : Bool :=
  decide ((s.plane h).state = .retiring) && decide (0 < (gone.filter (fun j => j.names h)).length) &&
    decide ((s.plane h).refCount ≤ (gone.filter (fun j => j.names h)).length) && !(s.plane h).releaseDue

theorem namedPlanes_contains (gone : List Job) (h : Nat) :
    (namedPlanes gone).contains h = decide (0 < (gone.filter (fun j => j.names h)).length) := by
  rw [← namedPlanes_count]
  exact Bool.eq_iff_iff.mpr (by rw [decide_eq_true_iff, List.count_pos_iff, List.contains_iff_mem])

/-- The planes that end a reference and are ready to be released, once the ref counts have fallen. -/
theorem State.lastGone_filter (s : State) (gone : List Job) :
    (allHandles.filter (fun h => (namedPlanes gone).contains h)).filter
        (fun h => ((s.lowerRefs gone).plane h).readyToRelease) = allHandles.filter (s.lastGone gone) := by
  rw [List.filter_filter]
  refine List.filter_congr fun h _ => ?_
  rw [namedPlanes_contains, s.lowerRefs_plane]
  unfold State.lastGone Plane.readyToRelease
  simp only [Nat.sub_eq_zero_iff_le]
  ac_rfl

theorem State.packActive_congr {s t : State} (h : t.jobs = s.jobs) : t.packActive = s.packActive := by
  unfold State.packActive
  rw [h]

theorem State.lowerRefs_keeps (s : State) (gone : List Job) :
    (s.lowerRefs gone).jobs = s.jobs ∧ (s.lowerRefs gone).freeList = s.freeList ∧
      (s.lowerRefs gone).notices = s.notices := by
  rw [s.lowerRefs_table]
  exact ⟨rfl, rfl, rfl⟩

/-- A departure while no PACK is active. -/
theorem State.endReferences_released (s : State) (gone : List Job) (hp : s.packActive = false) :
    Released (s.lowerRefs gone) (allHandles.filter (s.lastGone gone)) ((s.lowerRefs gone).endReferences gone) := by
  rw [← s.lastGone_filter]
  refine released_foldl (jobs := s.jobs) (p := Plane.readyToRelease) (fun t h ht => ?_) (allHandles_nodup.filter _)
    (s.lowerRefs_keeps gone).1
  unfold State.endReference
  rw [State.packActive_congr ht, hp]
  rfl

/-- A departure while a PACK is active. -/
theorem State.endReferences_due (s : State) (gone : List Job) (hp : s.packActive = true) :
    (s.lowerRefs gone).endReferences gone =
        { s.lowerRefs gone with planes := ((s.lowerRefs gone).endReferences gone).planes } ∧
      ∀ h, ((s.lowerRefs gone).endReferences gone).plane h =
        if h ∈ allHandles.filter (s.lastGone gone) then { (s.lowerRefs gone).plane h with releaseDue := true }
        else (s.lowerRefs gone).plane h := by
  rw [← s.lastGone_filter]
  refine due_foldl (jobs := s.jobs) (p := Plane.readyToRelease) (fun t h ht => ?_) (allHandles_nodup.filter _)
    (fun h hh => mem_allHandles.mp (List.mem_of_mem_filter hh)) (s.lowerRefs_keeps gone).1
  unfold State.endReference
  rw [State.packActive_congr ht, hp]
  rfl

theorem State.mem_lastGone {s : State} {gone : List Job} {h : Nat} :
    h ∈ allHandles.filter (s.lastGone gone) ↔ s.lastGone gone h = true := by
  rw [List.mem_filter, mem_allHandles, and_iff_right_of_imp]
  intro last
  by_contra out
  unfold State.lastGone at last
  rw [State.plane_outside s h (by omega)] at last
  simp [freePlaneRecord] at last

/-- The record of a plane after a departure. -/
theorem State.depart_plane (s : State) (gone kept : List Job) (byReset : Bool) (h : Nat) :
    (s.depart gone kept byReset).plane h =
      if (s.lastGone gone h && !byReset) = true then
        (if s.packActive = true then { s.plane h with refCount := 0, releaseDue := true } else freePlaneRecord)
      else { s.plane h with refCount := (s.plane h).refCount - (gone.filter (fun j => j.names h)).length } := by
  cases byReset with
  | true =>
    rw [Bool.not_true, Bool.and_false, if_neg nofun]
    exact s.lowerRefs_plane gone h
  | false =>
    rw [Bool.not_false, Bool.and_true]
    show ((s.lowerRefs gone).endReferences gone).plane h = _
    cases hp : s.packActive with
    | false =>
      rw [(s.endReferences_released gone hp).plane h, s.lowerRefs_plane]
      exact if_congr State.mem_lastGone rfl rfl
    | true =>
      rw [(s.endReferences_due gone hp).2 h, s.lowerRefs_plane]
      cases last : s.lastGone gone h with
      | false => rw [if_neg fun m => Bool.noConfusion (last.symm.trans (State.mem_lastGone.mp m)), if_neg nofun]
      | true =>
        obtain ⟨⟨-, few⟩, -⟩ : (_ ∧ (s.plane h).refCount ≤ (gone.filter (fun j => j.names h)).length) ∧ _ := by
          simpa [State.lastGone] using last
        rw [if_pos (State.mem_lastGone.mpr last), if_pos rfl, if_pos rfl, Nat.sub_eq_zero_of_le few]

theorem stagingAfter_eq (s : State) (gone : List Job) :
    stagingAfter s gone =
      match s.feeding with
      | none => s.staging
      | some f => if ∃ j ∈ gone, j.number = f.number then [] else s.staging := by
  unfold stagingAfter
  cases s.feeding with
  | none => rfl
  | some f => exact if_congr (by simp) rfl rfl

/-- What a departure returns and hands over. -/
theorem State.depart_lists (s : State) (gone kept : List Job) (byReset : Bool) :
    (let released := if s.packActive = true ∨ byReset = true then [] else allHandles.filter (s.lastGone gone)
    (s.depart gone kept byReset).freeList = released.foldl (fun l h => releaseExtent l (s.plane h).extent) s.freeList ∧
      (s.depart gone kept byReset).notices = released.foldl (fun u h => u.push (.planeReleased h)) s.notices) := by
  obtain ⟨-, freeList, notices⟩ := s.lowerRefs_keeps gone
  cases byReset with
  | true =>
    dsimp only
    rw [if_pos (.inr rfl)]
    exact ⟨freeList, notices⟩
  | false =>
    dsimp only
    cases hp : s.packActive with
    | true =>
      rw [if_pos (.inl rfl)]
      show ((s.lowerRefs gone).endReferences gone).freeList = _ ∧ ((s.lowerRefs gone).endReferences gone).notices = _
      rw [(s.endReferences_due gone hp).1]
      exact ⟨freeList, notices⟩
    | false =>
      rw [if_neg (by simp)]
      have released := s.endReferences_released gone hp
      refine ⟨released.freeList.trans ?_, released.notices.trans (by rw [notices])⟩
      rw [freeList]
      exact List.foldl_ext _ _ _ fun l h _ => by rw [s.lowerRefs_plane]

/-- A reset releases none of the planes a departure would release. -/
theorem State.released_eq (s : State) (gone : List Job) (byReset : Bool) :
    (if s.packActive = true ∨ byReset = true then [] else allHandles.filter (s.lastGone gone)) =
      if s.packActive = true then [] else allHandles.filter fun h => s.lastGone gone h && !byReset := by
  cases byReset with
  | true =>
    rw [if_pos (.inr rfl)]
    simp only [Bool.not_true, Bool.and_false, List.filter_false, ite_self]
  | false => simp only [Bool.not_false, Bool.and_true, Bool.false_eq_true, or_false]

/-- Settles O30: the ref counts fall first, and the planes then ready go one after the other; none of them changes what the
next one's record says. -/
theorem departureLowersTheRefCounts : Obligations.DepartureLowersTheRefCounts := by
  unfold Obligations.DepartureLowersTheRefCounts
  intro s gone kept byReset
  obtain ⟨freeList, notices⟩ := s.depart_lists gone kept byReset
  refine ⟨?_, fun h _ _ => s.depart_plane gone kept byReset h⟩
  conv_lhs => rw [s.depart_frame gone kept byReset, freeList, notices, stagingAfter_eq, s.released_eq]
  rfl

end Sys2Proof.Machine
end

section
/-! The laws of the job engine, of the running job and of the LOADs, and what a departure does to them (O55, O57). -/

namespace Sys2Proof.Machine

set_option Elab.async false

/-! ## The engine's own part of the state -/

/-- `t` has the queue, the plane table, the work in hand, the write hold and the load unit of `s`. -/
structure SameCore (s t : State) : Prop where
  jobs : t.jobs = s.jobs
  counter : t.jobCounter = s.jobCounter
  plane : ∀ i, t.plane i = s.plane i
  work : t.link.work = s.link.work
  hold : t.writeHold = s.writeHold
  staging : t.staging = s.staging
  timer : t.dataTimer = s.dataTimer

theorem SameCore.refl (s : State) : SameCore s s := ⟨rfl, rfl, fun _ => rfl, rfl, rfl, rfl, rfl⟩

theorem SameCore.trans {s t u : State} (h : SameCore s t) (k : SameCore t u) : SameCore s u :=
  ⟨k.jobs.trans h.jobs, k.counter.trans h.counter, fun i => (k.plane i).trans (h.plane i), k.work.trans h.work, k.hold.trans h.hold,
    k.staging.trans h.staging, k.timer.trans h.timer⟩

theorem SameCore.symm {s t : State} (h : SameCore s t) : SameCore t s :=
  ⟨h.jobs.symm, h.counter.symm, fun i => (h.plane i).symm, h.work.symm, h.hold.symm, h.staging.symm, h.timer.symm⟩

theorem PortsOnly.sameCore {s t : State} (h : PortsOnly s t) : SameCore s t := by
  rw [h]
  exact ⟨rfl, rfl, fun _ => rfl, rfl, rfl, rfl, rfl⟩

theorem SameEngine.sameCore {s t : State} (h : SameEngine s t) : SameCore s t := by
  obtain ⟨frame, work, -⟩ := h
  refine ⟨?_, ?_, fun i => ?_, work, ?_, ?_, ?_⟩
  · rw [frame]
  · rw [frame]
  · rw [frame]
    rfl
  · rw [frame]
  · rw [frame]
  · rw [frame]

/-! ## The laws between two commands of the engine -/

/-- The laws of the queue and of the plane table, but that the head has been examined. -/
structure EngineBase (s : State) : Prop where
  count : s.jobs.length ≤ 32
  behind : ∀ j ∈ s.jobs.tail, j.state = .queued
  awaits : ∀ j ∈ s.jobs, j.state = .awaitingData → j.isLoad = true
  apart : s.jobs.Pairwise (fun i j => ¬ i.number = j.number)
  numbers : ∀ j ∈ s.jobs, 1 ≤ j.number ∧ j.number ≤ 65535
  counter : 1 ≤ s.jobCounter ∧ s.jobCounter ≤ 65535
  emptied : s.link.work.map Work.emptiesQueue = some true → s.jobs.tail = []
  planes : PlaneLaw s

/-- The head has been examined. -/
def HeadSettled (s : State) : Prop := ∀ j ∈ s.jobs.head?, ¬ j.state = .queued

theorem engineLaw_iff {s : State} : EngineLaw s ↔ EngineBase s ∧ HeadSettled s := by
  constructor
  · rintro ⟨⟨count, behind, head, awaits, apart, numbers, low, high, emptied⟩, planes⟩
    exact ⟨⟨count, behind, awaits, apart, numbers, ⟨low, high⟩, emptied, planes⟩, head⟩
  · rintro ⟨⟨count, behind, awaits, apart, numbers, ⟨low, high⟩, emptied, planes⟩, head⟩
    exact ⟨⟨count, behind, head, awaits, apart, numbers, low, high, emptied⟩, planes⟩

/-- The byte counts of the LOADs, whatever the state of the head. -/
def LoadCounts (s : State) : Prop :=
  ∀ j ∈ s.jobs, ∀ h r fn total got, j.body = .load h r fn total got →
    total = r.w * (s.plane h).depth / 8 * r.h ∧ got ≤ total ∧
      (s.feeding = some j → s.staging.length + r.w * (s.plane h).depth / 8 * j.rowsDone = got) ∧
      (¬ s.feeding = some j → got = 0 ∧ j.rowsDone = 0)

/-- A LOAD's state says whether a row is staged, and the data timer whether the head awaits data. -/
def HeadFed (s : State) : Prop :=
  (∀ j ∈ s.jobs, ∀ h r fn total got, j.body = .load h r fn total got →
    (j.state = .active → r.w * (s.plane h).depth / 8 ≤ s.staging.length) ∧
      (j.state = .awaitingData → s.staging.length < r.w * (s.plane h).depth / 8)) ∧
    s.dataTimer = (if s.jobs.head?.map (·.state) = some .awaitingData then .running 500 else .stopped)

theorem loadLaw_iff {s : State} : LoadLaw s ↔ LoadCounts s ∧ HeadFed s := by
  constructor
  · rintro ⟨loads, timer⟩
    refine ⟨fun j hj h r fn total got hb => ?_, fun j hj h r fn total got hb => ?_, timer⟩
    · obtain ⟨size, most, fed, young, -, -⟩ := loads j hj h r fn total got hb
      exact ⟨size, most, fed, young⟩
    · obtain ⟨-, -, -, -, active, awaiting⟩ := loads j hj h r fn total got hb
      exact ⟨active, awaiting⟩
  · rintro ⟨counts, states, timer⟩
    refine ⟨fun j hj h r fn total got hb => ?_, timer⟩
    obtain ⟨size, most, fed, young⟩ := counts j hj h r fn total got hb
    exact ⟨size, most, fed, young, states j hj h r fn total got hb⟩

/-- The laws of the engine that hold at every moment of a command but while a row or an extent is being completed; those of
the running job where `R` holds, and those of the LOADs where `L` does. -/
structure Engine (R L : Prop) (s : State) : Prop where
  base : EngineBase s
  running : R → RunningLaw s
  loads : L → StagingLaw s ∧ LoadCounts s ∧ HeadFed s

/-- The same, while the head is about to leave or to go on. -/
structure Leaving (R L : Prop) (s : State) : Prop where
  base : EngineBase s
  running : R → RunningLaw s
  loads : L → StagingLaw s ∧ LoadCounts s

theorem Engine.leaving {R L : Prop} {s : State} (h : Engine R L s) : Leaving R L s :=
  ⟨h.base, h.running, fun l => ⟨(h.loads l).1, (h.loads l).2.1⟩⟩

/-! ## Congruence -/

theorem PlaneLaw.congr {s t : State} (h : PlaneLaw s) (plane : ∀ i, t.plane i = s.plane i)
    (names : ∀ i, (t.jobs.filter (fun j => j.names i)).length = (s.jobs.filter (fun j => j.names i)).length)
    (work : ∀ q, t.link.work = some (.query q) → s.link.work = some (.query q) ∨ (s.plane q.handle).state = .live) :
    PlaneLaw t := by
  obtain ⟨table, query⟩ := h
  refine ⟨fun i low high => ?_, fun q hq => ?_⟩
  · rw [plane, names]
    exact table i low high
  · rw [plane]
    exact (work q hq).elim (query q) id

/-- The queue with other records that name the same planes and have the same numbers. -/
theorem EngineBase.withJobs {s t : State} (h : EngineBase s) (numbers : t.jobs.map (·.number) = s.jobs.map (·.number))
    (names : t.jobs.map (·.body.planes) = s.jobs.map (·.body.planes)) (behind : ∀ j ∈ t.jobs.tail, j.state = .queued)
    (awaits : ∀ j ∈ t.jobs, j.state = .awaitingData → j.isLoad = true) (counter : t.jobCounter = s.jobCounter)
    (plane : ∀ i, t.plane i = s.plane i) (work : t.link.work = s.link.work) : EngineBase t := by
  have length : t.jobs.length = s.jobs.length := by simpa using congrArg List.length numbers
  have named (l : List Job) (i : Nat) :
      (l.filter (fun j => j.names i)).length = ((l.map (·.body.planes)).filter (fun p => p.contains i)).length := by
    rw [List.filter_map, List.length_map]
    rfl
  refine ⟨length ▸ h.count, behind, awaits, ?_, fun j hj => ?_, counter ▸ h.counter, fun hw => ?_,
    h.planes.congr plane (fun i => by rw [named, named, names]) fun q hq => .inl (work ▸ hq)⟩
  · have apart : (s.jobs.map (·.number)).Pairwise (fun m n => ¬ m = n) := List.pairwise_map.mpr h.apart
    rw [← numbers] at apart
    exact List.pairwise_map.mp apart
  · have hj : j.number ∈ s.jobs.map (·.number) := numbers ▸ List.mem_map_of_mem hj
    obtain ⟨i, hi, e⟩ := List.mem_map.mp hj
    exact e ▸ h.numbers i hi
  · have none := h.emptied (work ▸ hw)
    have short := congrArg List.length none
    rw [List.length_tail, List.length_nil, ← length, ← List.length_tail] at short
    exact List.eq_nil_of_length_eq_zero short

theorem EngineBase.congr {s t : State} (h : EngineBase s) (k : SameCore s t) : EngineBase t :=
  h.withJobs (by rw [k.jobs]) (by rw [k.jobs]) (k.jobs ▸ h.behind) (k.jobs ▸ h.awaits) k.counter k.plane k.work

theorem RunningLaw.congr {s t : State} (h : RunningLaw s) (jobs : t.jobs = s.jobs) (hold : t.writeHold = s.writeHold) :
    RunningLaw t := by
  unfold RunningLaw
  rw [jobs, hold]
  exact h

theorem StagingLaw.congr {s t : State} (h : StagingLaw s) (jobs : t.jobs = s.jobs) (staging : t.staging = s.staging) :
    StagingLaw t := by
  unfold StagingLaw State.feeding
  rw [jobs, staging]
  exact h

theorem LoadCounts.congr {s t : State} (h : LoadCounts s) (k : SameCore s t) : LoadCounts t := by
  unfold LoadCounts State.feeding
  simp only [k.jobs, k.staging, k.plane]
  exact h

theorem HeadFed.congr {s t : State} (h : HeadFed s) (k : SameCore s t) : HeadFed t := by
  unfold HeadFed
  simp only [k.jobs, k.staging, k.plane, k.timer]
  exact h

theorem Engine.congr {R L : Prop} {s t : State} (h : Engine R L s) (k : SameCore s t) : Engine R L t :=
  ⟨h.base.congr k, fun r => (h.running r).congr k.jobs k.hold,
    fun l => ⟨(h.loads l).1.congr k.jobs k.staging, (h.loads l).2.1.congr k, (h.loads l).2.2.congr k⟩⟩

theorem Leaving.congr {R L : Prop} {s t : State} (h : Leaving R L s) (k : SameCore s t) : Leaving R L t :=
  ⟨h.base.congr k, fun r => (h.running r).congr k.jobs k.hold,
    fun l => ⟨(h.loads l).1.congr k.jobs k.staging, (h.loads l).2.congr k⟩⟩

theorem HeadSettled.congr {s t : State} (h : HeadSettled s) (jobs : t.jobs = s.jobs) : HeadSettled t := by
  unfold HeadSettled
  rw [jobs]
  exact h

/-! ## The parts of a departure -/

/-- The queue splits into the jobs that leave and those that stay, which stay in order. -/
structure Splits (jobs gone kept : List Job) : Prop where
  perm : (gone ++ kept).Perm jobs
  order : kept.Sublist jobs

theorem Splits.head (jobs : List Job) : Splits jobs (jobs.take 1) jobs.tail := by
  refine ⟨?_, List.tail_sublist jobs⟩
  rw [← List.drop_one, List.take_append_drop]

theorem Splits.named {jobs gone kept : List Job} (h : Splits jobs gone kept) (i : Nat) :
    (jobs.filter (fun j => j.names i)).length =
      (gone.filter (fun j => j.names i)).length + (kept.filter (fun j => j.names i)).length := by
  rw [← (h.perm.filter _).length_eq, List.filter_append, List.length_append]

/-- The numbers of the jobs that leave are not those of the jobs that stay. -/
theorem Splits.apart {jobs gone kept : List Job} (h : Splits jobs gone kept)
    (apart : jobs.Pairwise (fun i j => ¬ i.number = j.number)) : ∀ g ∈ gone, ∀ k ∈ kept, ¬ g.number = k.number := by
  have both : (gone ++ kept).Pairwise (fun i j => ¬ i.number = j.number) :=
    apart.perm h.perm.symm fun ne e => ne e.symm
  exact fun g hg k hk => (List.pairwise_append.mp both).2.2 g hg k hk

theorem Sublist.tail_sublist {α : Type} {l m : List α} (h : l.Sublist m) : l.tail.Sublist m.tail := by
  cases h with
  | slnil => exact .slnil
  | cons a h => exact (List.tail_sublist l).trans h
  | cons_cons a h => exact h

theorem PlaneLaw.depart {s : State} (law : PlaneLaw s) {gone kept : List Job} (split : Splits s.jobs gone kept)
    (byReset : Bool) : PlaneLaw (s.depart gone kept byReset) := by
  obtain ⟨table, query⟩ := law
  have jobs : (s.depart gone kept byReset).jobs = kept := by rw [s.depart_frame]
  refine ⟨fun h low high => ?_, fun q hq => ?_⟩
  · obtain ⟨free, count, due⟩ := table h low high
    rw [split.named h] at count
    rw [jobs, s.depart_plane]
    split
    · next last =>
      obtain ⟨⟨⟨⟨retiring, -⟩, few⟩, -⟩, -⟩ : (((_ ∧ _) ∧ (s.plane h).refCount ≤ (gone.filter (fun j => j.names h)).length) ∧ _) ∧ _ := by
        simpa [State.lastGone] using last
      have none : (kept.filter (fun j => j.names h)).length = 0 := by omega
      split
      · exact ⟨fun hf => PlaneState.noConfusion (retiring.symm.trans hf), none.symm, fun _ => ⟨retiring, rfl⟩⟩
      · exact ⟨fun _ => rfl, none.symm, nofun⟩
    · refine ⟨fun hf => ?_, ?_, fun hd => ⟨(due hd).1, ?_⟩⟩
      · have blank := free hf
        rw [blank]
        have zero (n : Nat) : freePlaneRecord.refCount - n = 0 := Nat.zero_sub n
        rw [zero]
        rfl
      · show (s.plane h).refCount - _ = _
        omega
      · have := (due hd).2
        show (s.plane h).refCount - _ = 0
        omega
  · have work : (s.depart gone kept byReset).link = s.link := by rw [s.depart_frame]
    have live := query q (work ▸ hq)
    rw [s.depart_plane]
    split
    · next last =>
      have retiring : (s.plane q.handle).state = .retiring := by
        simp only [State.lastGone, Bool.and_eq_true, decide_eq_true_eq] at last
        exact last.1.1.1.1
      exact PlaneState.noConfusion (live.symm.trans retiring)
    · exact live

theorem EngineBase.depart {s : State} (h : EngineBase s) {gone kept : List Job} (split : Splits s.jobs gone kept)
    (byReset : Bool) : EngineBase (s.depart gone kept byReset) := by
  have frame := s.depart_frame gone kept byReset
  have jobs : (s.depart gone kept byReset).jobs = kept := by rw [frame]
  have counter : (s.depart gone kept byReset).jobCounter = s.jobCounter := by rw [frame]
  have link : (s.depart gone kept byReset).link = s.link := by rw [frame]
  refine ⟨?_, ?_, ?_, ?_, ?_, counter ▸ h.counter, ?_, h.planes.depart split byReset⟩ <;> rw [jobs]
  · exact split.order.length_le.trans h.count
  · exact fun j hj => h.behind j ((Sublist.tail_sublist split.order).mem hj)
  · exact fun j hj => h.awaits j (split.order.mem hj)
  · exact h.apart.sublist split.order
  · exact fun j hj => h.numbers j (split.order.mem hj)
  · intro hw
    rw [link] at hw
    exact List.sublist_nil.mp (h.emptied hw ▸ Sublist.tail_sublist split.order)

theorem StagingLaw.depart {s : State} (h : StagingLaw s) {gone kept : List Job} (split : Splits s.jobs gone kept)
    (byReset : Bool) : StagingLaw (s.depart gone kept byReset) := by
  obtain ⟨most, none⟩ := h
  have frame := s.depart_frame gone kept byReset
  have jobs : (s.depart gone kept byReset).jobs = kept := by rw [frame]
  have staging : (s.depart gone kept byReset).staging = stagingAfter s gone := by rw [frame]
  unfold StagingLaw State.feeding
  rw [jobs, staging, stagingAfter_eq]
  cases hf : s.feeding with
  | none => exact ⟨most, fun _ => none hf⟩
  | some f =>
    dsimp only
    split
    · exact ⟨Nat.zero_le _, fun _ => rfl⟩
    · next stays =>
      refine ⟨most, fun no => ?_⟩
      have hin : f ∈ gone ++ kept := split.perm.mem_iff.mpr (List.mem_of_find?_eq_some hf)
      obtain hin | hin := List.mem_append.mp hin
      · exact absurd ⟨f, hin, rfl⟩ stays
      · exact absurd (List.find?_some hf) (List.find?_eq_none.mp no f hin)

/-- A plane that a job left in the queue names keeps its record but for the ref count. -/
theorem State.depart_named {s : State} (law : PlaneLaw s) {gone kept : List Job} (split : Splits s.jobs gone kept)
    (byReset : Bool) {j : Job} (hj : j ∈ kept) {h : Nat} (hn : j.names h = true) :
    ((s.depart gone kept byReset).plane h).depth = (s.plane h).depth := by
  rw [s.depart_plane]
  split
  · next last =>
    obtain ⟨⟨⟨⟨retiring, -⟩, few⟩, -⟩, -⟩ : (((_ ∧ _) ∧ (s.plane h).refCount ≤ (gone.filter (fun j => j.names h)).length) ∧ _) ∧ _ := by
      simpa [State.lastGone] using last
    have inTable : 1 ≤ h ∧ h ≤ 24 := by
      by_contra out
      rw [State.plane_outside s h (by omega)] at retiring
      cases retiring
    obtain ⟨-, count, -⟩ := law.1 h inTable.1 inTable.2
    rw [split.named h] at count
    have some : 0 < (kept.filter (fun j => j.names h)).length :=
      List.length_pos_of_mem (List.mem_filter.mpr ⟨hj, hn⟩)
    omega
  · rfl

theorem find?_of_sublist {p : Job → Bool} {l m : List Job} (h : l.Sublist m) {f : Job} (hf : m.find? p = some f)
    (hl : f ∈ l) (once : m.Nodup) : l.find? p = some f := by
  induction h with
  | slnil => cases hl
  | cons a h ih =>
    have inLater : f ∈ _ := h.mem hl
    have hne : ¬ p a = true := fun ha => by
      rw [List.find?_cons_of_pos ha] at hf
      cases hf
      exact (List.nodup_cons.mp once).1 inLater
    rw [List.find?_cons_of_neg hne] at hf
    exact ih hf hl (List.nodup_cons.mp once).2
  | cons_cons a h ih =>
    by_cases ha : p a = true
    · rw [List.find?_cons_of_pos ha] at hf ⊢
      exact hf
    · rw [List.find?_cons_of_neg ha] at hf ⊢
      obtain rfl | hl := List.mem_cons.mp hl
      · exact absurd (List.find?_some hf) ha
      · exact ih hf hl (List.nodup_cons.mp once).2

theorem LoadCounts.depart {s : State} (base : EngineBase s) (h : LoadCounts s) {gone kept : List Job}
    (split : Splits s.jobs gone kept) (byReset : Bool) : LoadCounts (s.depart gone kept byReset) := by
  have frame := s.depart_frame gone kept byReset
  have jobs : (s.depart gone kept byReset).jobs = kept := by rw [frame]
  have staging : (s.depart gone kept byReset).staging = stagingAfter s gone := by rw [frame]
  have once : s.jobs.Nodup := base.apart.imp fun {i j} ne (e : i = j) => ne (e ▸ rfl)
  have apart := split.apart base.apart
  unfold LoadCounts State.feeding
  rw [jobs, staging, stagingAfter_eq]
  intro j hj h' r fn total got hb
  have inJobs := split.order.mem hj
  obtain ⟨size, most, fed, young⟩ := h j inJobs h' r fn total got hb
  have load : j.isLoad = true := by simp [Job.isLoad, hb]
  have named : j.names h' = true := by simp [Job.names, hb, JobBody.planes]
  rw [State.depart_named base.planes split byReset hj named]
  obtain ⟨f, hf⟩ : ∃ f, s.feeding = some f := by
    cases hf : s.feeding with
    | none => exact absurd load (List.find?_eq_none.mp hf j inJobs)
    | some f => exact ⟨f, rfl⟩
  rw [hf] at fed young ⊢
  dsimp only
  by_cases left : ∃ g ∈ gone, g.number = f.number
  · obtain ⟨g, hg, e⟩ := left
    have other : ¬ some f = some j := fun same => apart g hg j hj (e.trans (congrArg Job.number (Option.some.inj same)))
    obtain ⟨none, start⟩ := young other
    rw [if_pos ⟨g, hg, e⟩]
    refine ⟨size, most, fun _ => ?_, fun _ => ⟨none, start⟩⟩
    rw [none, start]
    simp
  · rw [if_neg left]
    have stays : f ∈ kept := by
      have hin : f ∈ gone ++ kept := split.perm.mem_iff.mpr (List.mem_of_find?_eq_some hf)
      exact (List.mem_append.mp hin).resolve_left fun hin => left ⟨f, hin, rfl⟩
    rw [find?_of_sublist split.order hf stays once]
    exact ⟨size, most, fed, young⟩

end Sys2Proof.Machine
end

section
/-! The job engine's operations on the head, and the laws they keep (O55, O57). -/

namespace Sys2Proof.Machine

set_option Elab.async false

section Head

variable {R L : Prop} {s : State}

/-! ## The head leaves -/

theorem State.depart_jobs (s : State) (gone kept : List Job) (byReset : Bool) : (s.depart gone kept byReset).jobs = kept := by
  rw [s.depart_frame]

theorem State.depart_staging (s : State) (gone kept : List Job) (byReset : Bool) :
    (s.depart gone kept byReset).staging = stagingAfter s gone := by
  rw [s.depart_frame]

/-- A departure looks at nothing but the core. -/
theorem SameCore.depart {t : State} (h : SameCore s t) (gone kept : List Job) (byReset : Bool) :
    SameCore (s.depart gone kept byReset) (t.depart gone kept byReset) := by
  have staging : stagingAfter t gone = stagingAfter s gone := by
    unfold stagingAfter State.feeding
    rw [h.jobs, h.staging]
  have last (i : Nat) : t.lastGone gone i = s.lastGone gone i := by
    unfold State.lastGone
    rw [h.plane]
  refine ⟨?_, ?_, fun i => ?_, ?_, ?_, ?_, ?_⟩
  · rw [State.depart_jobs, State.depart_jobs]
  · rw [t.depart_frame, s.depart_frame]
    exact h.counter
  · rw [State.depart_plane, State.depart_plane, h.plane, last, State.packActive_congr h.jobs]
  · rw [t.depart_frame, s.depart_frame]
    exact h.work
  · rw [t.depart_frame, s.depart_frame]
    exact h.hold
  · rw [State.depart_staging, State.depart_staging, staging]
  · rw [t.depart_frame, s.depart_frame]
    exact h.timer

/-- The part once its head has left, with no write hold and no data timer. -/
def State.headGone (s : State) (byReset : Bool) : State :=
  { s.departHead byReset with writeHold := none, dataTimer := .stopped }

/-- The head leaves a part that differs in its hold and its timer at most. -/
theorem SameCore.headGone {t : State} (h : SameCore { s with writeHold := t.writeHold, dataTimer := t.dataTimer } t)
    (byReset : Bool) : SameCore (s.headGone byReset) (t.headGone byReset) := by
  have gone := h.depart (s.jobs.take 1) s.jobs.tail byReset
  have jobs : t.jobs = s.jobs := h.jobs
  have bare : SameCore (s.headGone byReset)
      (State.headGone { s with writeHold := t.writeHold, dataTimer := t.dataTimer } byReset) := by
    refine ⟨?_, ?_, fun i => ?_, ?_, rfl, ?_, rfl⟩
    · rfl
    · show (State.depart _ _ s.jobs.tail _).jobCounter = (s.depart _ s.jobs.tail _).jobCounter
      rw [State.depart_frame, s.depart_frame]
    · show (State.depart _ _ s.jobs.tail _).plane i = (s.depart _ s.jobs.tail _).plane i
      rw [State.depart_plane, State.depart_plane]
      rfl
    · show (State.depart _ _ s.jobs.tail _).link.work = (s.depart _ s.jobs.tail _).link.work
      rw [State.depart_frame, s.depart_frame]
    · rfl
  refine bare.trans ?_
  unfold State.headGone State.departHead
  rw [jobs]
  exact ⟨gone.jobs, gone.counter, gone.plane, gone.work, rfl, gone.staging, rfl⟩

/-- A part with no write hold, once its head has left. -/
theorem State.headGone_core (hold : s.writeHold = none) (byReset : Bool) :
    SameCore (s.headGone byReset) { s.departHead byReset with dataTimer := .stopped } := by
  refine ⟨rfl, rfl, fun _ => rfl, rfl, ?_, rfl, rfl⟩
  show (s.departHead byReset).writeHold = none
  unfold State.departHead
  rw [s.depart_frame]
  exact hold

theorem Leaving.headGone (h : Leaving R L s) (byReset : Bool) : Engine R L (s.headGone byReset) := by
  have split : Splits s.jobs (s.jobs.take 1) s.jobs.tail := .head s.jobs
  have base := h.base.depart split byReset
  have jobs : (s.headGone byReset).jobs = s.jobs.tail := rfl
  have queued : ∀ j ∈ s.jobs.tail, j.state = .queued := h.base.behind
  have still : ∀ j ∈ s.jobs.tail, j.running = false := fun j hj => by simp [Job.running, queued j hj]
  refine ⟨⟨base.count, base.behind, base.awaits, base.apart, base.numbers, base.counter, base.emptied, base.planes⟩,
    fun r => ?_, fun l => ?_⟩
  · obtain ⟨rows, -, -⟩ := h.running r
    refine ⟨fun j hj => ?_, fun _ => rfl, fun j hj => ⟨fun run => ?_, fun _ => rfl⟩⟩
    · rw [jobs] at hj
      exact rows j (List.mem_of_mem_tail hj)
    · rw [jobs] at hj
      exact Bool.noConfusion ((still j (List.mem_of_mem_head? hj)).symm.trans run)
  · obtain ⟨staging, counts⟩ := h.loads l
    refine ⟨staging.depart split byReset, counts.depart h.base split byReset, fun j hj _ _ _ _ _ _ => ?_, ?_⟩
    · rw [jobs] at hj
      have is := queued j hj
      exact ⟨fun a => JobState.noConfusion (is.symm.trans a), fun a => JobState.noConfusion (is.symm.trans a)⟩
    · rw [jobs, if_neg]
      · rfl
      · intro awaits
        obtain ⟨j, hj, is⟩ := Option.map_eq_some_iff.mp awaits
        exact JobState.noConfusion ((queued j (List.mem_of_mem_head? hj)).symm.trans is)

theorem State.freed_core (s : State) (rows : Nat) :
    SameCore { s with writeHold := none } (s.recordRows rows).releaseWriteHold := by
  have recorded : PortsOnly s (s.recordRows rows) := .recordRows s rows
  unfold State.releaseWriteHold
  split
  · next none =>
    refine ⟨?_, ?_, fun i => ?_, ?_, none, ?_, ?_⟩
    · exact recorded.sameCore.jobs
    · exact recorded.sameCore.counter
    · exact recorded.sameCore.plane i
    · exact recorded.sameCore.work
    · exact recorded.sameCore.staging
    · exact recorded.sameCore.timer
  · have core := recorded.sameCore
    have free : SameCore { s with writeHold := none } { s.recordRows rows with writeHold := none } :=
      ⟨core.jobs, core.counter, core.plane, core.work, rfl, core.staging, core.timer⟩
    exact free.trans (PortsOnly.wakePorts _ _).sameCore

/-- What is left when the head leaves with its hold released. -/
theorem State.freed_headGone (s : State) (rows : Nat) :
    SameCore (s.headGone false)
      { (s.recordRows rows).releaseWriteHold.departHead false with dataTimer := .stopped } := by
  have freed := s.freed_core rows
  have same : SameCore { s with
      writeHold := (s.recordRows rows).releaseWriteHold.writeHold
      dataTimer := (s.recordRows rows).releaseWriteHold.dataTimer } (s.recordRows rows).releaseWriteHold :=
    ⟨freed.jobs, freed.counter, freed.plane, freed.work, rfl, freed.staging, rfl⟩
  exact (same.headGone false).trans (State.headGone_core freed.hold false)

theorem Leaving.endHead (h : Leaving R L s) (j : Job) (st : Status) : Engine R L (s.endHead j st) := by
  refine (h.headGone false).congr ((s.freed_headGone j.rowsDone).trans ?_)
  unfold State.endHead State.notifyEnd
  split
  · exact ⟨rfl, rfl, fun _ => rfl, rfl, rfl, rfl, rfl⟩
  · exact .refl _

/-! ## PACK winds up -/

theorem State.releaseDuePlanes_released (s : State) :
    Released s (allHandles.filter (fun h => (s.plane h).releaseDue)) s.releaseDuePlanes :=
  released_foldl (jobs := s.jobs) (p := Plane.releaseDue) (fun _ _ _ => rfl) allHandles_nodup rfl

theorem State.releaseLayoutLock_core (s : State) : SameCore s s.releaseLayoutLock := by
  unfold State.releaseLayoutLock
  split
  · exact SameCore.trans (t := { s with layoutLock := false }) ⟨rfl, rfl, fun _ => rfl, rfl, rfl, rfl, rfl⟩ (PortsOnly.wakePorts _ _).sameCore
  · exact .refl s

theorem Leaving.windUpPack (h : Leaving R L s) : Leaving R L s.windUpPack := by
  have released := s.releaseDuePlanes_released
  refine Leaving.congr ?_ (State.releaseLayoutLock_core _)
  generalize s.releaseDuePlanes = t at released
  obtain ⟨table, -, -, plane⟩ := released
  have jobs : t.jobs = s.jobs := by rw [table]
  have link : t.link = s.link := by rw [table]
  have staging : t.staging = s.staging := by rw [table]
  have inTable {i : Nat} (hi : i ∈ allHandles.filter (fun h => (s.plane h).releaseDue)) :
      (s.plane i).refCount = 0 ∧ (s.plane i).state = .retiring ∧ (s.jobs.filter (fun j => j.names i)).length = 0 := by
    obtain ⟨hi, due⟩ := List.mem_filter.mp hi
    obtain ⟨low, high⟩ := mem_allHandles.mp hi
    obtain ⟨-, count, only⟩ := h.base.planes.1 i low high
    exact ⟨(only due).2, (only due).1, count ▸ (only due).2⟩
  have planes : PlaneLaw t := by
    refine ⟨fun i low high => ?_, fun q hq => ?_⟩
    · rw [plane, jobs]
      split
      · next hi => exact ⟨fun _ => rfl, (inTable hi).2.2.symm, nofun⟩
      · exact h.base.planes.1 i low high
    · rw [link] at hq
      have live := h.base.planes.2 q hq
      rw [plane, if_neg]
      · exact live
      · exact fun hi => PlaneState.noConfusion (live.symm.trans (inTable hi).2.1)
  have depth : ∀ j ∈ s.jobs, ∀ i, j.names i = true → t.plane i = s.plane i := by
    intro j hj i hn
    rw [plane, if_neg]
    intro hi
    exact absurd (List.length_pos_of_mem (List.mem_filter.mpr ⟨hj, hn⟩)) (by rw [(inTable hi).2.2]; exact Nat.lt_irrefl 0)
  refine ⟨⟨jobs ▸ h.base.count, jobs ▸ h.base.behind, jobs ▸ h.base.awaits, jobs ▸ h.base.apart, jobs ▸ h.base.numbers, ?_,
    ?_, planes⟩, fun r => (h.running r).congr jobs (by rw [table]), fun l => ⟨(h.loads l).1.congr jobs staging, ?_⟩⟩
  · rw [table]
    exact h.base.counter
  · rw [jobs, link]
    exact h.base.emptied
  · unfold LoadCounts State.feeding
    rw [jobs, staging]
    intro j hj i r fn total got hb
    rw [depth j hj i (by simp [Job.names, hb, JobBody.planes])]
    exact (h.loads l).2 j hj i r fn total got hb

theorem Leaving.stopHead (h : Leaving R L s) (j : Job) : Engine R L (s.stopHead j) := by
  unfold State.stopHead
  have wound : Leaving R L (if j.body = .pack then s.windUpPack else s) := by
    split
    · exact h.windUpPack
    · exact h
  exact (wound.headGone false).congr (State.freed_headGone _ j.rowsDone)

theorem Leaving.stopHeadForReset (h : Leaving R L s) (j : Job) : Engine R L (s.stopHeadForReset j) := by
  have core := (PortsOnly.recordRows s j.rowsDone).sameCore.depart (s.jobs.take 1) s.jobs.tail true
  refine (h.headGone true).congr ?_
  unfold State.stopHeadForReset State.headGone State.departHead
  rw [(PortsOnly.recordRows s j.rowsDone).sameCore.jobs]
  exact ⟨core.jobs, core.counter, core.plane, core.work, rfl, core.staging, rfl⟩

/-- A PACK that looks at what is left to move, and ends when nothing is. -/
theorem Engine.packProceed (h : Engine R L s) (j : Job) : Engine R L (s.packProceed j).1 := by
  unfold State.packProceed
  split
  · exact h
  · exact h.leaving.windUpPack.endHead j .ok

theorem Engine.packTryLock (h : Engine R L s) (j : Job) : Engine R L (s.packTryLock j).1 := by
  unfold State.packTryLock
  split
  · exact Engine.packProceed (s := { s with layoutLock := true }) (h.congr ⟨rfl, rfl, fun _ => rfl, rfl, rfl, rfl, rfl⟩) j
  · exact h

theorem State.packTryLock_jobs {j : Job} (stays : (s.packTryLock j).2 = false) : (s.packTryLock j).1.jobs = s.jobs := by
  unfold State.packTryLock State.packProceed at *
  split at stays
  · next free =>
    rw [if_pos free]
    split
    · rfl
    · next none => rw [none] at stays; cases stays
  · next busy => rw [if_neg busy]

end Head

end Sys2Proof.Machine
end

section
/-! The examination of the head keeps the engine's laws, and leaves the head examined (O55, O57). -/

namespace Sys2Proof.Machine

set_option Elab.async false

section Examination

variable {R L : Prop} {s t : State} {j j' : Job} {rest : List Job}

/-- The byte counts, with another record at the head. -/
theorem LoadCounts.setHead (apart : s.jobs.Pairwise (fun i j => ¬ i.number = j.number)) (h : LoadCounts s)
    (hj : s.jobs = j :: rest) (jobs : t.jobs = j' :: rest) (number : j'.number = j.number)
    (load : j'.isLoad = j.isLoad) (plane : ∀ i, t.plane i = s.plane i)
    (staging : j.isLoad = false → t.staging = s.staging)
    (own : ∀ h r fn total got, j'.body = .load h r fn total got →
      total = r.w * (s.plane h).depth / 8 * r.h ∧ got ≤ total ∧
        t.staging.length + r.w * (s.plane h).depth / 8 * j'.rowsDone = got) : LoadCounts t := by
  rw [hj] at apart
  have others : ∀ i ∈ rest, ¬ j.number = i.number := (List.pairwise_cons.mp apart).1
  unfold LoadCounts State.feeding at h ⊢
  rw [hj] at h
  rw [jobs]
  intro i hi h' r fn total got hb
  rw [plane]
  obtain rfl | hi := List.mem_cons.mp hi
  · obtain ⟨size, most, fed⟩ := own h' r fn total got hb
    have is : i.isLoad = true := by simp [Job.isLoad, hb]
    refine ⟨size, most, fun _ => fed, fun no => absurd ?_ no⟩
    exact List.find?_cons_of_pos is
  · obtain ⟨size, most, fed, young⟩ := h i (List.mem_cons_of_mem _ hi) h' r fn total got hb
    cases hl : j.isLoad with
    | true =>
      have notNew : ¬ j' = i := fun e => others i hi (number.symm.trans (congrArg Job.number e))
      have notOld : ¬ j = i := fun e => others i hi (congrArg Job.number e)
      rw [List.find?_cons_of_pos (load.trans hl)]
      rw [List.find?_cons_of_pos hl] at young
      exact ⟨size, most, fun e => absurd (Option.some.inj e) notNew, fun _ => young fun e => notOld (Option.some.inj e)⟩
    | false =>
      rw [List.find?_cons_of_neg (by simp [load, hl]), staging hl]
      rw [List.find?_cons_of_neg (by simp [hl])] at fed young
      exact ⟨size, most, fed, young⟩

/-- A head that is a LOAD is the feeding one. -/
theorem LoadCounts.head (h : LoadCounts s) (hj : s.jobs = j :: rest) {h' : Nat} {r : Rect} {fn : BitVec 4}
    {total got : Nat} (hb : j.body = .load h' r fn total got) :
    total = r.w * (s.plane h').depth / 8 * r.h ∧ got ≤ total ∧
      s.staging.length + r.w * (s.plane h').depth / 8 * j.rowsDone = got := by
  obtain ⟨size, most, fed, -⟩ := h j (hj ▸ List.mem_cons_self) h' r fn total got hb
  refine ⟨size, most, fed ?_⟩
  unfold State.feeding
  rw [hj]
  exact List.find?_cons_of_pos (by simp [Job.isLoad, hb])

theorem StagingLaw.setHead (h : StagingLaw s) (hj : s.jobs = j :: rest) (jobs : t.jobs = j' :: rest)
    (load : j'.isLoad = j.isLoad) (staging : t.staging = s.staging) : StagingLaw t := by
  obtain ⟨most, none⟩ := h
  unfold StagingLaw State.feeding at *
  rw [hj] at none
  rw [jobs, staging]
  refine ⟨most, fun no => none ?_⟩
  rw [List.find?_cons] at no ⊢
  rw [load] at no
  cases hl : j.isLoad with
  | true => rw [hl] at no; cases no
  | false => rw [hl] at no; exact no

/-- What examination makes of a head that it leaves in the queue. -/
structure TakenUp (s : State) (j : Job) (rest : List Job) (t : State) (j' : Job) : Prop where
  jobs : t.jobs = j' :: rest
  counter : t.jobCounter = s.jobCounter
  plane : ∀ i, t.plane i = s.plane i
  work : t.link.work = s.link.work
  staging : t.staging = s.staging
  number : j'.number = j.number
  body : j'.body = j.body
  rows : j'.rowsDone = j.rowsDone
  settled : ¬ j'.state = .queued
  awaits : j'.state = .awaitingData → j'.isLoad = true
  owns : j'.running = true → s.writeHold = none → j'.ownsHold t.writeHold
  held : j'.running = false → t.writeHold = s.writeHold
  fed : ∀ h r fn total got, j.body = .load h r fn total got →
    (j'.state = .active → r.w * (s.plane h).depth / 8 ≤ s.staging.length) ∧
      (j'.state = .awaitingData → s.staging.length < r.w * (s.plane h).depth / 8)
  timed : j'.state = .awaitingData → t.dataTimer = .running 500
  untimed : ¬ j'.state = .awaitingData → t.dataTimer = s.dataTimer

theorem Engine.takenUp (h : Engine R L s) (hj : s.jobs = j :: rest) (hr : j.running = false) (k : TakenUp s j rest t j') :
    Engine R L t ∧ HeadSettled t := by
  have load : j'.isLoad = j.isLoad := by
    unfold Job.isLoad
    rw [k.body]
  have tail : s.jobs.tail = rest := by rw [hj]; rfl
  have behind : ∀ i ∈ rest, i.state = .queued := tail ▸ h.base.behind
  refine ⟨⟨h.base.withJobs ?_ ?_ ?_ ?_ k.counter k.plane k.work, fun r => ?_, fun l => ?_⟩, ?_⟩
  · rw [k.jobs, hj, List.map_cons, List.map_cons, k.number]
  · rw [k.jobs, hj, List.map_cons, List.map_cons, k.body]
  · rw [k.jobs]
    exact behind
  · rw [k.jobs]
    intro i hi
    obtain rfl | hi := List.mem_cons.mp hi
    · exact k.awaits
    · exact fun ha => JobState.noConfusion ((behind i hi).symm.trans ha)
  · obtain ⟨rows, -, head⟩ := h.running r
    have free : s.writeHold = none := (head j (by rw [hj]; rfl)).2 hr
    refine ⟨fun i hi still => ?_, fun none => ?_, fun i hi => ?_⟩
    · rw [k.jobs] at hi
      obtain rfl | hi := List.mem_cons.mp hi
      · exact k.rows.trans (rows j (hj ▸ List.mem_cons_self) hr)
      · exact rows i (hj ▸ List.mem_cons_of_mem _ hi) still
    · exact absurd none (k.jobs ▸ List.cons_ne_nil _ _)
    · rw [k.jobs] at hi
      obtain rfl : j' = i := Option.some.inj hi
      exact ⟨fun run => k.owns run free, fun still => (k.held still).trans free⟩
  · obtain ⟨staging, counts, fed, timer⟩ := h.loads l
    refine ⟨staging.setHead hj k.jobs load k.staging, ?_, fun i hi h' r fn total got hb => ?_, ?_⟩
    · refine counts.setHead h.base.apart hj k.jobs k.number load k.plane (fun _ => k.staging) fun h' r fn total got hb => ?_
      rw [k.staging, k.rows]
      exact counts.head hj (k.body ▸ hb)
    · rw [k.jobs] at hi
      rw [k.plane, k.staging]
      obtain rfl | hi := List.mem_cons.mp hi
      · exact k.fed h' r fn total got (k.body ▸ hb)
      · exact fed i (hj ▸ List.mem_cons_of_mem _ hi) h' r fn total got hb
    · have stopped : s.dataTimer = .stopped := by
        rw [timer, hj, if_neg]
        intro awaits
        have : j.state = .awaitingData := Option.some.inj awaits
        simp [Job.running, this] at hr
      rw [k.jobs]
      show _ = if some j'.state = some .awaitingData then _ else _
      by_cases awaits : j'.state = .awaitingData
      · rw [if_pos (congrArg some awaits)]
        exact k.timed awaits
      · rw [if_neg fun e => awaits (Option.some.inj e)]
        exact (k.untimed awaits).trans stopped
  · intro i hi
    rw [k.jobs] at hi
    obtain rfl : j' = i := Option.some.inj hi
    exact k.settled

/-! ## The examination of one job -/

section TakingUp

variable (hj : s.jobs = j :: rest)
include hj

theorem TakenUp.hold : TakenUp s j rest (s.hold j) { j with state := .held, fixed := nothingFixed } where
  jobs := by
    show _ :: s.jobs.tail = _
    rw [hj]
    rfl
  counter := rfl
  plane := fun _ => rfl
  work := rfl
  staging := rfl
  number := rfl
  body := rfl
  rows := rfl
  settled := nofun
  awaits := nofun
  owns := nofun
  held := fun _ => rfl
  fed := fun _ _ _ _ _ _ => ⟨nofun, nofun⟩
  timed := nofun
  untimed := fun _ => rfl

theorem TakenUp.activate (h : Nat) (r : Rect) (f : Fixed)
    (owns : { j with state := .active, fixed := f }.ownsHold (some { plane := h, rect := r }))
    (fed : ∀ h r fn total got, j.body = .load h r fn total got → r.w * (s.plane h).depth / 8 ≤ s.staging.length) :
    TakenUp s j rest (s.activate j h r f) { j with state := .active, fixed := f } where
  jobs := by
    show _ :: s.jobs.tail = _
    rw [hj]
    rfl
  counter := rfl
  plane := fun _ => rfl
  work := rfl
  staging := rfl
  number := rfl
  body := rfl
  rows := rfl
  settled := nofun
  awaits := nofun
  owns := fun _ _ => owns
  held := nofun
  fed := fun h r fn total got hb => ⟨fun _ => fed h r fn total got hb, nofun⟩
  timed := nofun
  untimed := fun _ => rfl

theorem TakenUp.await {h : Nat} {r : Rect} {fn : BitVec 4} {total got : Nat} (hb : j.body = .load h r fn total got)
    (short : s.staging.length < r.w * (s.plane h).depth / 8) :
    TakenUp s j rest
      (State.setHead { s.activate j h r nothingFixed with dataTimer := .running Config.dataTimeoutMs }
        { j with state := .awaitingData, fixed := nothingFixed })
      { j with state := .awaitingData, fixed := nothingFixed } where
  jobs := by
    show _ :: s.jobs.tail = _
    rw [hj]
    rfl
  counter := rfl
  plane := fun _ => rfl
  work := rfl
  staging := rfl
  number := rfl
  body := rfl
  rows := rfl
  settled := nofun
  awaits := fun _ => by simp [Job.isLoad, hb]
  owns := fun _ _ => by
    simp only [Job.ownsHold, hb]
    rfl
  held := nofun
  fed := fun h' r' fn' total' got' hb' => by
    obtain ⟨rfl, rfl, -⟩ := JobBody.load.inj (hb.symm.trans hb')
    exact ⟨nofun, fun _ => short⟩
  timed := fun _ => rfl
  untimed := fun no => absurd rfl no

theorem Engine.activateOrHold (h : Engine R L s) (hr : j.running = false) (plane : Nat) (r : Rect) (f : Fixed)
    (owns : { j with state := .active, fixed := f }.ownsHold (some { plane := plane, rect := r }))
    (notLoad : j.isLoad = false) : Engine R L (s.activateOrHold j plane r f) ∧ HeadSettled (s.activateOrHold j plane r f) := by
  unfold State.activateOrHold
  split
  · exact h.takenUp hj hr (.hold hj)
  · refine h.takenUp hj hr (.activate hj plane r f owns fun _ _ _ _ _ hb => ?_)
    simp [Job.isLoad, hb] at notLoad

theorem Engine.examineLoad (h : Engine R L s) (hr : j.running = false) {plane : Nat} {r : Rect} {fn : BitVec 4}
    {total got : Nat} (hb : j.body = .load plane r fn total got) :
    Engine R L (s.examineLoad j plane r) ∧ HeadSettled (s.examineLoad j plane r) := by
  unfold State.examineLoad
  split
  · exact h.takenUp hj hr (.hold hj)
  · unfold State.loadProceed
    split
    · next short => exact h.takenUp hj hr (.await hj hb short)
    · next staged =>
      refine h.takenUp hj hr (.activate hj plane r nothingFixed ?_ fun _ _ _ _ _ hb' => ?_)
      · simp only [Job.ownsHold, hb]
      · obtain ⟨rfl, rfl, -⟩ := JobBody.load.inj (hb.symm.trans hb')
        exact Nat.not_lt.mp staged

/-- A PACK that becomes ACTIVE has fixed nothing and holds nothing. -/
theorem TakenUp.pack (hb : j.body = .pack) :
    TakenUp s j rest (s.setHead { j with state := .active }) { j with state := .active } where
  jobs := by
    show _ :: s.jobs.tail = _
    rw [hj]
    rfl
  counter := rfl
  plane := fun _ => rfl
  work := rfl
  staging := rfl
  number := rfl
  body := rfl
  rows := rfl
  settled := nofun
  awaits := nofun
  owns := fun _ free => by
    simp only [Job.ownsHold, hb]
    exact free
  held := nofun
  fed := fun _ _ _ _ _ hb' => JobBody.noConfusion (hb.symm.trans hb')
  timed := nofun
  untimed := fun _ => rfl

/-- The examination of a head that is not running: it leaves, or is in a state other than QUEUED. -/
theorem Engine.examineJob (h : Engine R L s) (hr : j.running = false) :
    Engine R L (s.examineJob j).1 ∧ ((s.examineJob j).2 = false → HeadSettled (s.examineJob j).1) := by
  have keeps {t : State} (k : Engine R L t ∧ HeadSettled t) (b : Bool) :
      Engine R L (t, b).1 ∧ ((t, b).2 = false → HeadSettled (t, b).1) := ⟨k.1, fun _ => k.2⟩
  have ends {t : State} (k : Engine R L t) : Engine R L (t, true).1 ∧ ((t, true).2 = false → HeadSettled (t, true).1) :=
    ⟨k, nofun⟩
  unfold State.examineJob
  split
  · next d hb =>
    exact keeps (Engine.activateOrHold hj h hr _ _ _ (by simp only [Job.ownsHold, hb]) (by simp [Job.isLoad, hb])) false
  · next d src sx sy hb =>
    exact keeps (Engine.activateOrHold hj h hr _ _ _ (by simp only [Job.ownsHold, hb]) (by simp [Job.isLoad, hb])) false
  · next hb => exact keeps (Engine.examineLoad hj h hr hb) false
  · next hb =>
    unfold State.examineText
    split
    · exact ends (h.leaving.endHead _ _)
    · dsimp only
      split
      · exact ends (h.leaving.endHead _ _)
      · next r _ =>
        exact keeps
          (Engine.activateOrHold hj h hr _ _ _ (by simp only [Job.ownsHold, hb]; exact ⟨r, rfl⟩) (by simp [Job.isLoad, hb]))
          false
  · next p force hb =>
    exact ends ((h.congr (PortsOnly.showPort s p force).sameCore).leaving.endHead _ _)
  · next hb =>
    obtain ⟨taken, settled⟩ := h.takenUp hj hr (.pack hj hb)
    refine ⟨taken.packTryLock _, fun stays => ?_⟩
    exact settled.congr (State.packTryLock_jobs stays)
  · exact ends (h.leaving.endHead _ _)

end TakingUp

/-- What every turn of an examination keeps, and its last turn brings, holds after it. -/
theorem State.examine_settles {P Q : State → Prop} (empty : ∀ {s}, P s → s.jobs = [] → Q s)
    (runs : ∀ {s j rest}, P s → s.jobs = j :: rest → j.running = true → Q s)
    (ends : ∀ {s j rest}, P s → s.jobs = j :: rest → j.running = false → (s.examineJob j).2 = true → P (s.examineJob j).1)
    (stays : ∀ {s j rest}, P s → s.jobs = j :: rest → j.running = false → (s.examineJob j).2 = false →
      Q (s.examineJob j).1) {s : State} (hs : P s) : Q s.examine := by
  induction hl : s.jobs generalizing s with
  | nil =>
    rw [State.examine_nil hl]
    exact empty hs hl
  | cons j rest ih =>
    cases hr : j.running with
    | true =>
      rw [State.examine_running hl hr]
      exact runs hs hl hr
    | false =>
      rw [State.examine_cons hl hr]
      cases he : (s.examineJob j).2 with
      | true =>
        rw [if_pos rfl]
        refine ih (ends hs hl hr he) ?_
        rw [State.examineJob_jobs s j he, hl]
        rfl
      | false =>
        rw [if_neg nofun]
        exact stays hs hl hr he

theorem Engine.examine (h : Engine R L s) : Engine R L s.examine ∧ HeadSettled s.examine := by
  refine State.examine_settles (P := Engine R L) (Q := fun s => Engine R L s ∧ HeadSettled s) ?_ ?_ ?_ ?_ h
  · intro s h none
    refine ⟨h, fun j hj => ?_⟩
    rw [none] at hj
    cases hj
  · intro s j rest h hj run
    refine ⟨h, fun i hi queued => ?_⟩
    rw [hj] at hi
    obtain rfl : j = i := Option.some.inj hi
    simp [Job.running, queued] at run
  · exact fun h hj hr _ => (Engine.examineJob hj h hr).1
  · exact fun h hj hr stays => ⟨(Engine.examineJob hj h hr).1, (Engine.examineJob hj h hr).2 stays⟩

/-- The laws of the engine with the head examined. -/
structure Settled (R L : Prop) (s : State) : Prop where
  engine : Engine R L s
  head : HeadSettled s

theorem Settled.congr (h : Settled R L s) (k : SameCore s t) : Settled R L t := ⟨h.engine.congr k, h.head.congr k.jobs⟩

theorem Engine.settled (h : Engine R L s) : Settled R L s.examine := ⟨h.examine.1, h.examine.2⟩

theorem Settled.packTryLock (h : Settled R L s) (j : Job) :
    Settled R L (if (s.packTryLock j).2 = true then (s.packTryLock j).1.examine else (s.packTryLock j).1) := by
  cases hp : (s.packTryLock j).2 with
  | true =>
    rw [if_pos rfl]
    exact (h.engine.packTryLock j).settled
  | false =>
    rw [if_neg nofun]
    exact ⟨h.engine.packTryLock j, h.head.congr (State.packTryLock_jobs hp)⟩

theorem Settled.retryPack (h : Settled R L s) : Settled R L s.retryPack := by
  unfold State.retryPack
  split
  · exact h
  · split
    · exact h.packTryLock _
    · exact h

theorem Settled.recheckHead (h : Settled R L s) : Settled R L s.recheckHead := by
  unfold State.recheckHead
  split
  · exact h.retryPack
  · exact h.engine.settled

end Examination

end Sys2Proof.Machine
end

section
/-! Planes made, released and bound, and jobs accepted and removed, under the engine's laws (O55, O57). -/

namespace Sys2Proof.Machine

set_option Elab.async false

section Planes

variable {R L : Prop} {s t : State}

/-! ## A plane table changed -/

/-- The same engine but for the plane table and the work in hand. -/
theorem Engine.withPlanes (h : Engine R L s) (jobs : t.jobs = s.jobs) (counter : t.jobCounter = s.jobCounter)
    (hold : t.writeHold = s.writeHold) (staging : t.staging = s.staging) (timer : t.dataTimer = s.dataTimer)
    (depth : ∀ j ∈ s.jobs, ∀ i, j.names i = true → (t.plane i).depth = (s.plane i).depth) (planes : PlaneLaw t)
    (emptied : t.link.work.map Work.emptiesQueue = some true → s.jobs.tail = []) : Engine R L t := by
  obtain ⟨count, behind, awaits, apart, numbers, bounds, -, -⟩ := h.base
  refine ⟨⟨jobs ▸ count, jobs ▸ behind, jobs ▸ awaits, jobs ▸ apart, jobs ▸ numbers, counter ▸ bounds, jobs ▸ emptied,
    planes⟩, fun r => (h.running r).congr jobs hold, fun l => ?_⟩
  obtain ⟨most, counts, fed, runs⟩ := h.loads l
  have same (j : Job) (hj : j ∈ s.jobs) {h' : Nat} {r : Rect} {fn : BitVec 4} {total got : Nat}
      (hb : j.body = .load h' r fn total got) : (t.plane h').depth = (s.plane h').depth :=
    depth j hj h' (by simp [Job.names, hb, JobBody.planes])
  refine ⟨most.congr jobs staging, ?_, ?_, ?_⟩
  · unfold LoadCounts State.feeding
    rw [jobs, staging]
    intro j hj h' r fn total got hb
    rw [same j hj hb]
    exact counts j hj h' r fn total got hb
  · rw [jobs, staging]
    intro j hj h' r fn total got hb
    rw [same j hj hb]
    exact fed j hj h' r fn total got hb
  · rw [timer, jobs]
    exact runs

/-- One record written. -/
theorem PlaneLaw.setPlane (law : PlaneLaw s) (k : Nat) {p : Plane} (free : p.state = .free → p = freePlaneRecord)
    (count : 1 ≤ k → k ≤ 24 → p.refCount = (s.jobs.filter (fun j => j.names k)).length)
    (due : p.releaseDue = true → p.state = .retiring ∧ p.refCount = 0)
    (query : ∀ q, s.link.work = some (.query q) → q.handle = k → p.state = .live) : PlaneLaw (s.setPlane k p) := by
  by_cases hk : 1 ≤ k ∧ k ≤ 24
  · refine ⟨fun i low high => ?_, fun q hq => ?_⟩
    · rw [State.plane_setPlane s i k p hk.1 hk.2, State.setPlane_jobs]
      split
      · next e => exact e ▸ ⟨free, count hk.1 hk.2, due⟩
      · exact law.1 i low high
    · rw [State.setPlane_link] at hq
      rw [State.plane_setPlane s _ k p hk.1 hk.2]
      split
      · next e => exact query q hq e
      · exact law.2 q hq
  · refine law.congr (fun i => State.plane_setPlane_outside s i k p (by omega)) (fun i => ?_) fun q hq => .inl ?_
    · rw [State.setPlane_jobs]
    · rwa [State.setPlane_link] at hq

theorem Engine.setPlane (h : Engine R L s) (k : Nat) {p : Plane} (free : p.state = .free → p = freePlaneRecord)
    (count : 1 ≤ k → k ≤ 24 → p.refCount = (s.jobs.filter (fun j => j.names k)).length)
    (due : p.releaseDue = true → p.state = .retiring ∧ p.refCount = 0)
    (query : ∀ q, s.link.work = some (.query q) → q.handle = k → p.state = .live)
    (depth : p.refCount = 0 ∨ p.depth = (s.plane k).depth) : Engine R L (s.setPlane k p) := by
  refine h.withPlanes (State.setPlane_jobs ..) (State.setPlane_jobCounter ..) (State.setPlane_writeHold ..)
    (State.setPlane_staging ..) (State.setPlane_dataTimer ..) (fun j hj i named => ?_)
    (h.base.planes.setPlane k free count due query) fun hw => h.base.emptied (by rwa [State.setPlane_link] at hw)
  by_cases hk : 1 ≤ k ∧ k ≤ 24
  · rw [State.plane_setPlane s i k p hk.1 hk.2]
    split
    · next e =>
      obtain none | same := depth
      · have named : j.names k = true := e ▸ named
        have some := List.length_pos_of_mem (List.mem_filter (p := fun j => j.names k).mpr ⟨hj, named⟩)
        rw [← count hk.1 hk.2, none] at some
        exact absurd some (Nat.lt_irrefl 0)
      · exact e ▸ same
    · rfl
  · rw [State.plane_setPlane_outside s i k p (by omega)]

/-- The ref count is 0 exactly where no job names the plane. -/
theorem PlaneLaw.unnamed (law : PlaneLaw s) {k : Nat} (zero : (s.plane k).refCount = 0) (low : 1 ≤ k) (high : k ≤ 24) :
    (s.jobs.filter (fun j => j.names k)).length = 0 := by
  obtain ⟨-, count, -⟩ := law.1 k low high
  exact count ▸ zero

theorem Engine.releasePlane (h : Engine R L s) {k : Nat} (zero : (s.plane k).refCount = 0)
    (quiet : ∀ q, ¬ s.link.work = some (.query q)) : Engine R L (s.releasePlane k) := by
  have listed : Engine R L { s with freeList := releaseExtent s.freeList (s.plane k).extent } :=
    h.congr ⟨rfl, rfl, fun _ => rfl, rfl, rfl, rfl, rfl⟩
  exact listed.setPlane k (fun _ => rfl) (fun low high => (h.base.planes.unnamed zero low high).symm) nofun
    (fun q hq => absurd hq (quiet q)) (.inl rfl)

/-! ## Records that keep what the engine looks at -/

/-- What the engine looks at in a plane's record. -/
def Plane.refs (p : Plane) : PlaneState × Nat × Bool × Nat := (p.state, p.refCount, p.releaseDue, p.depth)

/-- The plane table with other extents or bindings. -/
structure SameRefs (s t : State) : Prop where
  refs : ∀ i, (t.plane i).refs = (s.plane i).refs
  free : ∀ i, s.plane i = freePlaneRecord → t.plane i = freePlaneRecord

theorem SameRefs.trans {u : State} (h : SameRefs s t) (k : SameRefs t u) : SameRefs s u :=
  ⟨fun i => (k.refs i).trans (h.refs i), fun i hi => k.free i (h.free i hi)⟩

theorem SameRefs.of_plane (h : ∀ i, t.plane i = s.plane i) : SameRefs s t :=
  ⟨fun i => by rw [h], fun i hi => (h i).trans hi⟩

theorem SameRefs.setPlane (k : Nat) {p : Plane} (refs : p.refs = (s.plane k).refs)
    (free : s.plane k = freePlaneRecord → p = freePlaneRecord) : SameRefs s (s.setPlane k p) := by
  refine ⟨fun i => s.planeField_setPlane Plane.refs k refs i, fun i hi => ?_⟩
  by_cases hk : 1 ≤ k ∧ k ≤ 24
  · rw [State.plane_setPlane s i k p hk.1 hk.2]
    split
    · next e => exact free (e ▸ hi)
    · exact hi
  · rw [State.plane_setPlane_outside s i k p (by omega), hi]

theorem SameRefs.state (h : SameRefs s t) (i : Nat) : (t.plane i).state = (s.plane i).state :=
  congrArg Prod.fst (h.refs i)

theorem PlaneLaw.sameRefs (law : PlaneLaw s) (h : SameRefs s t) (jobs : t.jobs = s.jobs)
    (work : ∀ q, t.link.work = some (.query q) → (s.plane q.handle).state = .live) : PlaneLaw t := by
  refine ⟨fun i low high => ?_, fun q hq => (h.state _).trans (work q hq)⟩
  obtain ⟨free, count, due⟩ := law.1 i low high
  have refs := h.refs i
  unfold Plane.refs at refs
  obtain ⟨state, refs⟩ := Prod.mk.inj refs
  obtain ⟨refCount, refs⟩ := Prod.mk.inj refs
  obtain ⟨releaseDue, -⟩ := Prod.mk.inj refs
  rw [jobs, state, refCount, releaseDue]
  exact ⟨fun f => h.free i (free f), count, due⟩

/-- The same engine with other extents or bindings in the plane table, and with other work. -/
theorem Engine.sameRefs (h : Engine R L s) (k : SameRefs s t) (jobs : t.jobs = s.jobs)
    (counter : t.jobCounter = s.jobCounter) (hold : t.writeHold = s.writeHold) (staging : t.staging = s.staging)
    (timer : t.dataTimer = s.dataTimer)
    (work : ∀ q, t.link.work = some (.query q) → (s.plane q.handle).state = .live)
    (emptied : t.link.work.map Work.emptiesQueue = some true → s.jobs.tail = []) : Engine R L t := by
  refine h.withPlanes jobs counter hold staging timer (fun j hj i named => ?_) (h.base.planes.sameRefs k jobs work) emptied
  have refs := k.refs i
  unfold Plane.refs at refs
  obtain ⟨-, refs⟩ := Prod.mk.inj refs
  obtain ⟨-, refs⟩ := Prod.mk.inj refs
  exact (Prod.mk.inj refs).2

theorem Settled.sameRefs (h : Settled R L s) (k : SameRefs s t) (jobs : t.jobs = s.jobs)
    (counter : t.jobCounter = s.jobCounter) (hold : t.writeHold = s.writeHold) (staging : t.staging = s.staging)
    (timer : t.dataTimer = s.dataTimer)
    (work : ∀ q, t.link.work = some (.query q) → (s.plane q.handle).state = .live)
    (emptied : t.link.work.map Work.emptiesQueue = some true → s.jobs.tail = []) : Settled R L t :=
  ⟨h.engine.sameRefs k jobs counter hold staging timer work emptied, h.head.congr jobs⟩

/-- Other work in hand. -/
theorem Settled.withWork (h : Settled R L s) (l : Link) (work : ∀ q, l.work = some (.query q) → (s.plane q.handle).state = .live)
    (emptied : l.work.map Work.emptiesQueue = some true → s.jobs.tail = []) : Settled R L { s with link := l } :=
  h.sameRefs (.of_plane fun _ => rfl) rfl rfl rfl rfl rfl work emptied

theorem Settled.answer (h : Settled R L s) (r : Reply) : Settled R L (s.answer r) := h.withWork _ nofun nofun

theorem SameRefs.moveExtent {x : OwnedExtent} {b : Nat} (hm : s.nextMove = some (x, b)) : SameRefs s (s.moveExtent x b) := by
  obtain ⟨k, -, used, is⟩ | ⟨i, -, -, is⟩ := mem_allocated.mp (mem_allocatedInOrder.mp (firstToMove_mem hm))
  · have owner : x.owner = .plane k := by rw [is]
    unfold State.moveExtent State.relocate
    rw [owner]
    have moved (u : State) (same : ∀ i, u.plane i = s.plane i) :
        SameRefs s (u.setPlane k { u.plane k with extent := { (u.plane k).extent with first := b } }) := by
      refine .trans (.of_plane same) (.setPlane k rfl fun free => absurd ?_ used)
      exact (congrArg Plane.state (same k)).symm.trans (congrArg Plane.state free)
    exact moved _ fun _ => rfl
  · have owner : x.owner = .font i := by rw [is]
    unfold State.moveExtent State.relocate
    rw [owner]
    exact .of_plane fun _ => rfl

theorem SameRefs.unbind (s : State) (p : Port) : SameRefs s (s.unbind p) := by
  rw [State.unbind_eq]
  refine .setPlane _ (by cases p <;> rfl) fun free => ?_
  rw [free]
  exact freePlaneRecord_setBound_false p

theorem SameRefs.configure {q : PanelRequest} (live : (s.plane q.handle).state = .live) (id : Nat) :
    SameRefs s (s.configure q id) := by
  have left : SameRefs s (s.unbind q.port) := .unbind s q.port
  refine .trans (t := (s.unbind q.port).bind q.port q.handle) (left.trans (.setPlane _ (by cases q.port <;> rfl) ?_))
    (.of_plane fun i => (PortsOnly.setPort _ _ _).sameCore.plane i)
  intro free
  have state := congrArg Plane.state free
  rw [left.state, live] at state
  cases state

end Planes

end Sys2Proof.Machine
end

section
/-! Jobs accepted, removed and fed, under the engine's laws (O25, O55, O57). -/

namespace Sys2Proof.Machine

set_option Elab.async false

/-! ## Job numbers (R38) -/

/-- The k-th number from a counter upward: 1 follows 65535. -/
def numberFrom (c k : Nat) : Nat := (c - 1 + k) % 65535 + 1

theorem numberFrom_zero {c : Nat} (low : 1 ≤ c) (high : c ≤ 65535) : numberFrom c 0 = c := by
  unfold numberFrom
  omega

theorem numberAfter_numberFrom (c k : Nat) : numberAfter (numberFrom c k) = numberFrom c (k + 1) := by
  unfold numberAfter numberFrom
  split <;> omega

theorem numberFrom_range (c k : Nat) : 1 ≤ numberFrom c k ∧ numberFrom c k ≤ 65535 := by
  unfold numberFrom
  omega

theorem numberFrom_inj {c i k : Nat} (hi : i < 65535) (hk : k < 65535) (h : numberFrom c i = numberFrom c k) : i = k := by
  unfold numberFrom at h
  omega

/-- The first free number, as far as the search goes. -/
theorem skipHeld_eq (jobs : List Job) (c turns k : Nat) :
    ∃ n, k ≤ n ∧ n ≤ k + turns ∧ skipHeld jobs turns (numberFrom c k) = numberFrom c n ∧
      (∀ i, k ≤ i → i < n → ∃ j ∈ jobs, j.number = numberFrom c i) ∧
      (n < k + turns → ∀ j ∈ jobs, ¬ j.number = numberFrom c n) := by
  induction turns generalizing k with
  | zero => exact ⟨k, Nat.le_refl _, Nat.le_refl _, rfl, fun i _ _ => by omega, fun h => absurd h (Nat.lt_irrefl _)⟩
  | succ turns ih =>
    unfold skipHeld
    split
    · next held =>
      obtain ⟨n, least, most, is, before, free⟩ := ih (k + 1)
      rw [numberAfter_numberFrom]
      refine ⟨n, by omega, by omega, is, fun i hi hn => ?_, fun hn => free (by omega)⟩
      obtain rfl | hi := Nat.eq_or_lt_of_le hi
      · simpa using held
      · exact before i hi hn
    · next free =>
      refine ⟨k, Nat.le_refl _, by omega, rfl, fun i hi hn => by omega, fun _ => ?_⟩
      simpa using free

/-- Fewer jobs than numbers leave one free within as many steps as there are jobs. -/
theorem skipHeld_free {jobs : List Job} {c : Nat} (few : jobs.length < 65535) :
    ∃ n, skipHeld jobs jobs.length (numberFrom c 0) = numberFrom c n ∧
      (∀ i, i < n → ∃ j ∈ jobs, j.number = numberFrom c i) ∧ ∀ j ∈ jobs, ¬ j.number = numberFrom c n := by
  obtain ⟨n, -, most, is, before, free⟩ := skipHeld_eq jobs c jobs.length 0
  rw [Nat.zero_add] at most free
  refine ⟨n, is, fun i hi => before i (Nat.zero_le _) hi, ?_⟩
  obtain below | rfl := Nat.lt_or_eq_of_le most
  · exact free below
  · intro j hj e
    have distinct : ((List.range (jobs.length + 1)).map (numberFrom c)).Nodup := by
      refine (List.nodup_range).map_on fun x hx y hy h => ?_
      rw [List.mem_range] at hx hy
      exact numberFrom_inj (by omega) (by omega) h
    have within : (List.range (jobs.length + 1)).map (numberFrom c) ⊆ jobs.map (·.number) := by
      intro v hv
      obtain ⟨i, hi, rfl⟩ := List.mem_map.mp hv
      rw [List.mem_range] at hi
      obtain below | rfl := Nat.lt_or_eq_of_le (Nat.le_of_lt_succ hi)
      · obtain ⟨j, hj, e⟩ := before i (Nat.zero_le _) below
        exact e ▸ List.mem_map_of_mem hj
      · exact e ▸ List.mem_map_of_mem hj
    have := (List.subperm_of_subset distinct within).length_le
    simp at this

theorem State.nextNumber_eq {s : State} (counter : 1 ≤ s.jobCounter ∧ s.jobCounter ≤ 65535) (few : s.jobs.length < 65535) :
    ∃ n, s.nextNumber = numberFrom s.jobCounter n ∧ (∀ i, i < n → ∃ j ∈ s.jobs, j.number = numberFrom s.jobCounter i) ∧
      ∀ j ∈ s.jobs, ¬ j.number = numberFrom s.jobCounter n := by
  have found := skipHeld_free (c := s.jobCounter) few
  rw [numberFrom_zero counter.1 counter.2] at found
  exact found

/-! ## Acceptance -/

theorem State.plane_raiseRef {s : State} {k : Nat} (h : Nat) (low : 1 ≤ k) (high : k ≤ 24) :
    (s.raiseRef k).plane h = { s.plane h with refCount := (s.plane h).refCount + if h = k then 1 else 0 } := by
  unfold State.raiseRef
  rw [State.plane_setPlane s h k _ low high]
  split
  · next e => rw [e]
  · rfl

theorem State.plane_raiseRefs {l : List Nat} (inTable : ∀ k ∈ l, 1 ≤ k ∧ k ≤ 24) (s : State) (h : Nat) :
    (l.foldl State.raiseRef s).plane h = { s.plane h with refCount := (s.plane h).refCount + l.count h } := by
  induction l generalizing s with
  | nil => rfl
  | cons k l ih =>
    obtain ⟨low, high⟩ := inTable k List.mem_cons_self
    rw [List.foldl_cons, ih (fun i hi => inTable i (List.mem_cons_of_mem _ hi)), State.plane_raiseRef h low high,
      List.count_cons]
    have same : (if (k == h) = true then 1 else 0) = if h = k then 1 else 0 :=
      if_congr (by rw [beq_iff_eq, eq_comm]) rfl rfl
    rw [same, Nat.add_comm (l.count h), ← Nat.add_assoc]

theorem State.raiseRefs_frame (l : List Nat) (s : State) :
    l.foldl State.raiseRef s = { s with planes := (l.foldl State.raiseRef s).planes } := by
  induction l generalizing s with
  | nil => rfl
  | cons k l ih =>
    have first : s.raiseRef k = { s with planes := (s.raiseRef k).planes } := by
      unfold State.raiseRef State.setPlane
      split <;> rfl
    rw [List.foldl_cons]
    have rest := ih (s.raiseRef k)
    rw [first] at rest ⊢
    exact rest

theorem State.withSizes_planes (s : State) (b : JobBody) : (s.withSizes b).planes = b.planes := by cases b <;> rfl

theorem State.accept_frame (s : State) (b : JobBody) (report : Bool) :
    s.accept b report =
      { s with
        planes := (s.accept b report).planes
        jobs := s.jobs ++ [s.newJob b report]
        jobCounter := numberAfter s.nextNumber } := by
  have frame := State.raiseRefs_frame b.planes s
  unfold State.accept
  generalize b.planes.foldl State.raiseRef s = t at frame
  rw [frame]

theorem State.accept_plane {s : State} {b : JobBody} (live : ∀ h ∈ b.planes, (s.plane h).state = .live) (report : Bool)
    (h : Nat) :
    (s.accept b report).plane h =
      { s.plane h with refCount := (s.plane h).refCount + if b.planes.contains h = true then 1 else 0 } := by
  rw [← JobBody.planes_count]
  refine State.plane_raiseRefs (fun k hk => State.handle_of_used (s := s) ?_) s h
  rw [live k hk]
  nofun

section Accept

variable {R L : Prop} {s : State} {b : JobBody}

theorem PlaneLaw.accept (law : PlaneLaw s) (live : ∀ h ∈ b.planes, (s.plane h).state = .live) (report : Bool) :
    PlaneLaw (s.accept b report) := by
  have jobs : (s.accept b report).jobs = s.jobs ++ [s.newJob b report] := rfl
  have link : (s.accept b report).link = s.link := s.accept_link b report
  refine ⟨fun i low high => ?_, fun q hq => ?_⟩
  · obtain ⟨free, count, due⟩ := law.1 i low high
    have named : (s.newJob b report).names i = b.planes.contains i := by
      unfold Job.names State.newJob
      rw [s.withSizes_planes]
    rw [State.accept_plane live, jobs, List.filter_append, List.length_append, ← count]
    cases hm : b.planes.contains i with
    | true =>
      have is := live i (by simpa using hm)
      refine ⟨fun f => PlaneState.noConfusion (is.symm.trans f), ?_,
        fun d => PlaneState.noConfusion (is.symm.trans (due d).1)⟩
      rw [List.filter_cons_of_pos (p := fun j : Job => j.names i) (named.trans hm)]
      rfl
    | false =>
      refine ⟨free, ?_, due⟩
      rw [List.filter_cons_of_neg (p := fun j : Job => j.names i) (by rw [named, hm]; nofun)]
      rfl
  · rw [link] at hq
    rw [State.accept_plane live]
    exact law.2 q hq

theorem EngineBase.accept (h : EngineBase s) (quiet : s.link.work = none) (room : s.jobs.length < 32)
    (live : ∀ h ∈ b.planes, (s.plane h).state = .live) (report : Bool) :
    EngineBase (s.accept b report) := by
  obtain ⟨n, is, -, fresh⟩ := State.nextNumber_eq h.counter (by omega)
  have jobs : (s.accept b report).jobs = s.jobs ++ [s.newJob b report] := rfl
  have number : (s.newJob b report).number = numberFrom s.jobCounter n := is
  have counter : (s.accept b report).jobCounter = numberFrom s.jobCounter (n + 1) := by
    rw [← numberAfter_numberFrom, ← is]
    rfl
  refine ⟨?_, ?_, ?_, ?_, ?_, counter ▸ numberFrom_range _ _, ?_, h.planes.accept live report⟩
  · rw [jobs, List.length_append]
    exact room
  · rw [jobs]
    cases hj : s.jobs with
    | nil => nofun
    | cons i rest =>
      intro j hm
      obtain hm | hm := List.mem_append.mp hm
      · exact h.behind j (by rw [hj]; exact hm)
      · rw [List.mem_singleton.mp hm]
        rfl
  · rw [jobs]
    intro j hm
    obtain hm | hm := List.mem_append.mp hm
    · exact h.awaits j hm
    · rw [List.mem_singleton.mp hm]
      nofun
  · rw [jobs, List.pairwise_append]
    refine ⟨h.apart, List.pairwise_singleton _ _, fun i hi k hk e => fresh i hi ?_⟩
    rw [List.mem_singleton.mp hk] at e
    exact e.trans number
  · rw [jobs]
    intro j hm
    obtain hm | hm := List.mem_append.mp hm
    · exact h.numbers j hm
    · rw [List.mem_singleton.mp hm, number]
      exact numberFrom_range _ _
  · rw [s.accept_link, quiet]
    nofun

theorem RunningLaw.accept (h : RunningLaw s) (report : Bool) : RunningLaw (s.accept b report) := by
  obtain ⟨rows, idle, head⟩ := h
  have jobs : (s.accept b report).jobs = s.jobs ++ [s.newJob b report] := rfl
  have hold : (s.accept b report).writeHold = s.writeHold := by rw [s.accept_frame]
  refine ⟨fun j hm still => ?_, fun none => ?_, fun j hm => ?_⟩
  · rw [jobs] at hm
    obtain hm | hm := List.mem_append.mp hm
    · exact rows j hm still
    · rw [List.mem_singleton.mp hm]
      rfl
  · rw [jobs] at none
    cases (List.append_eq_nil_iff.mp none).2
  · rw [jobs] at hm
    rw [hold]
    cases hj : s.jobs with
    | nil =>
      rw [hj] at hm
      obtain rfl : s.newJob b report = j := Option.some.inj hm
      exact ⟨nofun, fun _ => idle hj⟩
    | cons i rest =>
      rw [hj] at hm head
      exact head j hm

theorem StagingLaw.accept (h : StagingLaw s) (report : Bool) : StagingLaw (s.accept b report) := by
  obtain ⟨most, none⟩ := h
  have staging : (s.accept b report).staging = s.staging := by rw [s.accept_frame]
  unfold StagingLaw
  rw [staging]
  refine ⟨most, fun no => none (List.find?_eq_none.mpr fun j hj => ?_)⟩
  exact List.find?_eq_none.mp no j (List.mem_append_left _ hj)

theorem LoadCounts.accept (h : LoadCounts s) (fresh : ∀ j ∈ s.jobs, ¬ j.number = s.nextNumber) (staging : StagingLaw s)
    (live : ∀ h ∈ b.planes, (s.plane h).state = .live) (report : Bool) : LoadCounts (s.accept b report) := by
  have kept : (s.accept b report).staging = s.staging := by rw [s.accept_frame]
  have depth (i : Nat) : ((s.accept b report).plane i).depth = (s.plane i).depth := by rw [State.accept_plane live]
  have jobs : (s.accept b report).jobs = s.jobs ++ [s.newJob b report] := rfl
  have feeding : (s.accept b report).feeding =
      s.feeding.or (if (s.newJob b report).isLoad = true then some (s.newJob b report) else none) := by
    unfold State.feeding
    rw [jobs, List.find?_append, List.find?_cons]
    cases (s.newJob b report).isLoad <;> rfl
  intro j hm h' r fn total got hb
  rw [depth, kept, feeding]
  rw [jobs] at hm
  obtain hm | hm := List.mem_append.mp hm
  · obtain ⟨size, most, fed, young⟩ := h j hm h' r fn total got hb
    have load : j.isLoad = true := by simp [Job.isLoad, hb]
    obtain ⟨f, hf⟩ : ∃ f, s.feeding = some f := by
      cases hf : s.feeding with
      | none => exact absurd load (List.find?_eq_none.mp hf j hm)
      | some f => exact ⟨f, rfl⟩
    rw [hf] at fed young ⊢
    exact ⟨size, most, fed, young⟩
  · obtain rfl := List.mem_singleton.mp hm
    have load : (s.newJob b report).isLoad = true := by simp [Job.isLoad, hb]
    obtain ⟨size, start⟩ : total = s.rowByteCount h' r.w * r.h ∧ got = 0 := by
      have body : s.withSizes b = .load h' r fn total got := hb
      cases b with
      | load =>
        obtain ⟨rfl, rfl, rfl, rfl, rfl⟩ := JobBody.load.inj body
        exact ⟨rfl, rfl⟩
      | fill | block | text | showPort | pack | mark => cases body
    refine ⟨size, start ▸ Nat.zero_le _, fun first => ?_, fun _ => ⟨start, rfl⟩⟩
    have no : s.feeding = none := by
      cases hf : s.feeding with
      | none => rfl
      | some f =>
        rw [hf] at first
        obtain rfl : f = s.newJob b report := Option.some.inj first
        exact absurd rfl (fresh _ (List.mem_of_find?_eq_some hf))
    rw [staging.2 no, start]
    simp [State.newJob]

theorem Engine.accept (h : Engine R L s) (quiet : s.link.work = none) (room : s.jobs.length < 32)
    (live : ∀ h ∈ b.planes, (s.plane h).state = .live) (report : Bool) : Engine R L (s.accept b report) := by
  obtain ⟨n, is, -, fresh⟩ := State.nextNumber_eq h.base.counter (by omega)
  refine ⟨h.base.accept quiet room live report, fun r => (h.running r).accept report, fun l => ?_⟩
  obtain ⟨staging, counts, fed, timer⟩ := h.loads l
  refine ⟨staging.accept report, counts.accept (is ▸ fresh) staging live report, fun j hm h' r fn total got hb => ?_, ?_⟩
  · have kept : (s.accept b report).staging = s.staging := by rw [s.accept_frame]
    rw [kept, State.accept_plane live]
    obtain hm | hm := List.mem_append.mp hm
    · exact fed j hm h' r fn total got hb
    · rw [List.mem_singleton.mp hm]
      exact ⟨nofun, nofun⟩
  · have kept : (s.accept b report).dataTimer = s.dataTimer := by rw [s.accept_frame]
    have jobs : (s.accept b report).jobs = s.jobs ++ [s.newJob b report] := rfl
    rw [kept, timer, jobs]
    cases s.jobs with
    | nil => rfl
    | cons j rest => rfl

theorem Settled.accept (h : Settled R L s) (quiet : s.link.work = none) (room : s.jobs.length < 32)
    (live : ∀ h ∈ b.planes, (s.plane h).state = .live) (report : Bool) :
    Settled R L (if s.jobs.isEmpty = true then (s.accept b report).examine else s.accept b report) := by
  have accepted := h.engine.accept quiet room live report
  split
  · exact accepted.settled
  · next some =>
    refine ⟨accepted, fun j hj => ?_⟩
    have jobs : (s.accept b report).jobs = s.jobs ++ [s.newJob b report] := rfl
    rw [jobs] at hj
    cases hs : s.jobs with
    | nil => simp [hs] at some
    | cons i rest =>
      rw [hs] at hj
      exact h.head j (by rw [hs]; exact hj)

end Accept

end Sys2Proof.Machine
end

section
/-! Rows drawn and bytes staged, under the engine's laws (O55, O57). -/

namespace Sys2Proof.Machine

set_option Elab.async false

section Running

variable {R L : Prop} {s t : State} {j j' : Job} {rest : List Job}

/-! ## Another record at a running head -/

/-- `t` has another record of the running job at its head, and other staged bytes and another data timer at most. -/
structure HeadStep (s : State) (j : Job) (rest : List Job) (t : State) (j' : Job) : Prop where
  old : s.jobs = j :: rest
  jobs : t.jobs = j' :: rest
  counter : t.jobCounter = s.jobCounter
  plane : ∀ i, t.plane i = s.plane i
  work : t.link.work = s.link.work
  hold : t.writeHold = s.writeHold
  number : j'.number = j.number
  planes : j'.body.planes = j.body.planes
  load : j'.isLoad = j.isLoad
  runs : j.running = true ∧ j'.running = true
  awaits : j'.state = .awaitingData → j'.isLoad = true
  owns : ∀ w, j.ownsHold w → j'.ownsHold w
  staging : j.isLoad = false → t.staging = s.staging

theorem Leaving.step (h : Leaving R L s) (k : HeadStep s j rest t j') (most : L → t.staging.length ≤ 4096)
    (own : L → ∀ h r fn total got, j'.body = .load h r fn total got →
      total = r.w * (s.plane h).depth / 8 * r.h ∧ got ≤ total ∧
        t.staging.length + r.w * (s.plane h).depth / 8 * j'.rowsDone = got) : Leaving R L t := by
  have tail : s.jobs.tail = rest := by rw [k.old]; rfl
  have behind : ∀ i ∈ rest, i.state = .queued := tail ▸ h.base.behind
  refine ⟨h.base.withJobs ?_ ?_ ?_ ?_ k.counter k.plane k.work, fun r => ?_, fun l => ?_⟩
  · rw [k.jobs, k.old, List.map_cons, List.map_cons, k.number]
  · rw [k.jobs, k.old, List.map_cons, List.map_cons, k.planes]
  · rw [k.jobs]
    exact behind
  · rw [k.jobs]
    intro i hi
    obtain rfl | hi := List.mem_cons.mp hi
    · exact k.awaits
    · exact fun ha => JobState.noConfusion ((behind i hi).symm.trans ha)
  · obtain ⟨rows, -, head⟩ := h.running r
    refine ⟨fun i hi still => ?_, fun none => ?_, fun i hi => ?_⟩
    · rw [k.jobs] at hi
      obtain rfl | hi := List.mem_cons.mp hi
      · exact Bool.noConfusion (still.symm.trans k.runs.2)
      · exact rows i (k.old ▸ List.mem_cons_of_mem _ hi) still
    · exact absurd none (k.jobs ▸ List.cons_ne_nil _ _)
    · rw [k.jobs] at hi
      obtain rfl : j' = i := Option.some.inj hi
      have was := (head j (by rw [k.old]; rfl)).1 k.runs.1
      exact ⟨fun _ => k.owns _ (k.hold ▸ was), fun still => Bool.noConfusion (still.symm.trans k.runs.2)⟩
  · obtain ⟨⟨-, none⟩, counts⟩ := h.loads l
    refine ⟨⟨most l, fun no => ?_⟩, counts.setHead h.base.apart k.old k.jobs k.number k.load k.plane k.staging (own l)⟩
    unfold State.feeding at none no
    rw [k.jobs, List.find?_cons, k.load] at no
    rw [k.old, List.find?_cons] at none
    cases hl : j.isLoad with
    | true => rw [hl] at no; cases no
    | false =>
      rw [hl] at no none
      exact (k.staging hl).trans (none no)

/-- The head alone says whether the LOADs are fed. -/
theorem headFed_of_head (jobs : t.jobs = j' :: rest) (behind : ∀ i ∈ rest, i.state = .queued)
    (own : ∀ h r fn total got, j'.body = .load h r fn total got →
      (j'.state = .active → r.w * (t.plane h).depth / 8 ≤ t.staging.length) ∧
        (j'.state = .awaitingData → t.staging.length < r.w * (t.plane h).depth / 8))
    (timer : t.dataTimer = if j'.state = .awaitingData then .running 500 else .stopped) : HeadFed t := by
  refine ⟨fun i hi h r fn total got hb => ?_, ?_⟩
  · rw [jobs] at hi
    obtain rfl | hi := List.mem_cons.mp hi
    · exact own h r fn total got hb
    · exact ⟨fun a => JobState.noConfusion ((behind i hi).symm.trans a),
        fun a => JobState.noConfusion ((behind i hi).symm.trans a)⟩
  · rw [timer, jobs]
    exact if_congr ⟨congrArg some, Option.some.inj⟩ rfl rfl

theorem Leaving.fed (h : Leaving R L t) (fed : L → HeadFed t) : Engine R L t :=
  ⟨h.base, h.running, fun l => ⟨(h.loads l).1, (h.loads l).2, fed l⟩⟩

/-! ## Rows (R63, R64, R77, R99) -/

theorem Job.running_of_active (h : j.state = .active) : j.running = true := by simp [Job.running, h]

/-- A row of a job that is no LOAD, or an extent. -/
theorem HeadStep.nextRow (hj : s.jobs = j :: rest) (ha : j.state = .active)
    (core : SameCore { s with jobs := j.nextRow :: rest } t) : HeadStep s j rest t j.nextRow where
  old := hj
  jobs := core.jobs
  counter := core.counter
  plane := core.plane
  work := core.work
  hold := core.hold
  number := rfl
  planes := rfl
  load := rfl
  runs := ⟨Job.running_of_active ha, Job.running_of_active ha⟩
  awaits := fun hw => JobState.noConfusion (ha.symm.trans hw)
  owns := fun _ => id
  staging := fun _ => core.staging

theorem Settled.nextRow (h : Settled R L s) (hj : s.jobs = j :: rest) (ha : j.state = .active) (notLoad : j.isLoad = false)
    (core : SameCore { s with jobs := j.nextRow :: rest } t) : Settled R L t := by
  have noBody {h : Nat} {r : Rect} {fn : BitVec 4} {total got : Nat} : ¬ j.nextRow.body = .load h r fn total got := by
    intro hb
    have hb : j.body = .load h r fn total got := hb
    simp [Job.isLoad, hb] at notLoad
  have left : Leaving R L t := h.engine.leaving.step (.nextRow hj ha core) (fun l => ?_) fun _ _ _ _ _ _ hb => absurd hb noBody
  · refine ⟨left.fed fun l => ?_, fun i hi => ?_⟩
    · obtain ⟨-, -, -, timer⟩ := h.engine.loads l
      refine headFed_of_head core.jobs (fun i hi => h.engine.base.behind i (by rw [hj]; exact hi))
        (fun _ _ _ _ _ hb => absurd hb noBody) ?_
      rw [core.timer]
      refine timer.trans ?_
      rw [hj]
      exact if_congr ⟨Option.some.inj, congrArg some⟩ rfl rfl
    · rw [core.jobs] at hi
      obtain rfl : j.nextRow = i := Option.some.inj hi
      exact fun queued => JobState.noConfusion (ha.symm.trans queued)
  · rw [core.staging]
    exact (h.engine.loads l).1.1

/-- A row of a LOAD: its bytes leave the buffer. -/
theorem Settled.loadRow (h : Settled R L s) (hj : s.jobs = j :: rest) (ha : j.state = .active) {h' : Nat} {r : Rect}
    {fn : BitVec 4} {total got : Nat} (hb : j.body = .load h' r fn total got)
    (core : SameCore { s with jobs := j.nextRow :: rest, staging := s.staging.drop (s.rowByteCount h' r.w) } t) :
    Leaving R L t := by
  have load : j.isLoad = true := by simp [Job.isLoad, hb]
  have step : HeadStep s j rest t j.nextRow := {
    old := hj, jobs := core.jobs, counter := core.counter, plane := core.plane, work := core.work, hold := core.hold
    number := rfl, planes := rfl, load := rfl
    runs := ⟨Job.running_of_active ha, Job.running_of_active ha⟩
    awaits := fun _ => load
    owns := fun _ => id
    staging := fun no => Bool.noConfusion (load.symm.trans no) }
  have length : t.staging.length = s.staging.length - s.rowByteCount h' r.w := by
    rw [core.staging]
    exact List.length_drop
  refine h.engine.leaving.step step (fun l => ?_) fun l h2 r2 fn2 total2 got2 hb2 => ?_
  · have most := (h.engine.loads l).1.1
    omega
  · obtain ⟨rfl, rfl, rfl, rfl, rfl⟩ := JobBody.load.inj (hb.symm.trans hb2)
    obtain ⟨-, counts, states, -⟩ := h.engine.loads l
    obtain ⟨size, most, fed⟩ := counts.head hj hb
    have staged := (states j (hj ▸ List.mem_cons_self) h' r fn total got hb).1 ha
    refine ⟨size, most, ?_⟩
    have rows : j.nextRow.rowsDone = j.rowsDone + 1 := rfl
    have bytes : s.rowByteCount h' r.w = r.w * (s.plane h').depth / 8 := rfl
    rw [length, rows, bytes, Nat.mul_add, Nat.mul_one]
    omega

/-- A LOAD that has a row staged goes on, and one that has not awaits data. -/
theorem Leaving.loadProceed (h : Leaving R L s) (hj : s.jobs = j :: rest) (ha : j.state = .active) {h' : Nat} {r : Rect}
    {fn : BitVec 4} {total got : Nat} (hb : j.body = .load h' r fn total got) (stopped : L → s.dataTimer = .stopped) :
    Settled R L (s.loadProceed j (s.rowByteCount h' r.w)) := by
  have load : j.isLoad = true := by simp [Job.isLoad, hb]
  have behind : ∀ i ∈ rest, i.state = .queued := fun i hi => h.base.behind i (by rw [hj]; exact hi)
  unfold State.loadProceed
  split
  · next short =>
    have jobs : (State.setHead { s with dataTimer := .running Config.dataTimeoutMs } { j with state := .awaitingData }).jobs =
        { j with state := .awaitingData } :: rest := by
      show _ :: s.jobs.tail = _
      rw [hj]
      rfl
    have step : HeadStep s j rest
        (State.setHead { s with dataTimer := .running Config.dataTimeoutMs } { j with state := .awaitingData })
        { j with state := .awaitingData } := {
      old := hj, jobs := jobs, counter := rfl, plane := fun _ => rfl, work := rfl, hold := rfl, number := rfl
      planes := rfl, load := rfl
      runs := ⟨Job.running_of_active ha, rfl⟩
      awaits := fun _ => load
      owns := fun _ => id
      staging := fun _ => rfl }
    have left := h.step step (fun l => (h.loads l).1.1) fun l h2 r2 fn2 total2 got2 hb2 => (h.loads l).2.head hj hb2
    refine ⟨left.fed fun _ => headFed_of_head jobs behind (fun h2 r2 _ _ _ hb2 => ⟨nofun, fun _ => ?_⟩) rfl, fun i hi => ?_⟩
    · obtain ⟨rfl, rfl, -⟩ := JobBody.load.inj (hb.symm.trans hb2)
      exact short
    · rw [jobs] at hi
      cases hi
      nofun
  · next staged =>
    refine ⟨h.fed fun l => headFed_of_head hj behind (fun h2 r2 _ _ _ hb2 => ⟨fun _ => ?_, fun hw => ?_⟩) ?_,
      fun i hi => ?_⟩
    · obtain ⟨rfl, rfl, -⟩ := JobBody.load.inj (hb.symm.trans hb2)
      exact Nat.not_lt.mp staged
    · exact JobState.noConfusion (ha.symm.trans hw)
    · rw [if_neg fun hw => JobState.noConfusion (ha.symm.trans hw)]
      exact stopped l
    · rw [hj] at hi
      obtain rfl : j = i := Option.some.inj hi
      exact fun queued => JobState.noConfusion (ha.symm.trans queued)

/-- The row drawn, whether the job stays, stops or ends. -/
theorem Settled.rowDrawn (h : Settled R L s) (hj : s.jobs = j :: rest) (ha : j.state = .active) {goesOn : State}
    {height : Nat} (d : RowDrawn s j t height goesOn) : Leaving R L t ∧ Settled R L goesOn := by
  have head (k : Job) : k :: s.jobs.tail = k :: rest := by rw [hj]; rfl
  cases d with
  | fill d hb =>
    have drawn : Settled R L ((s.fillRow j d).setHead j.nextRow) :=
      h.nextRow hj ha (by simp [Job.isLoad, hb]) ⟨head _, rfl, fun _ => rfl, rfl, rfl, rfl, rfl⟩
    exact ⟨drawn.engine.leaving, drawn⟩
  | block d _ _ _ hb =>
    have drawn : Settled R L ((s.blockRow j d).setHead j.nextRow) :=
      h.nextRow hj ha (by simp [Job.isLoad, hb]) ⟨head _, rfl, fun _ => rfl, rfl, rfl, rfl, rfl⟩
    exact ⟨drawn.engine.leaving, drawn⟩
  | text i _ _ _ ink fn _ hold hb _ =>
    have drawn : Settled R L ((s.textRow j i hold.rect fn ink).setHead j.nextRow) :=
      h.nextRow hj ha (by simp [Job.isLoad, hb]) ⟨head _, rfl, fun _ => rfl, rfl, rfl, rfl, rfl⟩
    exact ⟨drawn.engine.leaving, drawn⟩
  | load i r fn total got hb =>
    have drawn : Leaving R L (State.setHead
        { s.loadRow j i r fn with staging := s.staging.drop (s.rowByteCount i r.w) } j.nextRow) :=
      h.loadRow hj ha hb ⟨head _, rfl, fun _ => rfl, rfl, rfl, rfl, rfl⟩
    refine ⟨drawn, drawn.loadProceed (head _) ha (h' := i) (r := r) hb fun l => ?_⟩
    obtain ⟨-, -, -, timer⟩ := h.engine.loads l
    refine timer.trans ?_
    rw [hj, if_neg]
    exact fun hw => JobState.noConfusion (ha.symm.trans (Option.some.inj hw))

end Running

end Sys2Proof.Machine
end

section
/-! Stops, removals, staged bytes and resets, under the engine's laws (O55, O57). -/

namespace Sys2Proof.Machine

set_option Elab.async false

section Stops

variable {R L : Prop} {s t : State} {j : Job} {rest : List Job}

/-! ## Jobs that leave from the queue -/

/-- A departure that leaves the head alone. -/
theorem Settled.departBehind (h : Settled R L s) {gone kept : List Job} (hj : s.jobs = j :: rest)
    (split : Splits (j :: rest) gone (j :: kept)) (byReset : Bool) : Settled R L (s.depart gone (j :: kept) byReset) := by
  rw [← hj] at split
  have jobs : (s.depart gone (j :: kept) byReset).jobs = j :: kept := State.depart_jobs ..
  have hold : (s.depart gone (j :: kept) byReset).writeHold = s.writeHold := by rw [s.depart_frame]
  have timer : (s.depart gone (j :: kept) byReset).dataTimer = s.dataTimer := by rw [s.depart_frame]
  have base := h.engine.base.depart split byReset
  refine ⟨⟨base, fun r => ?_, fun l => ?_⟩, fun i hi => ?_⟩
  · obtain ⟨rows, -, first⟩ := h.engine.running r
    unfold RunningLaw
    rw [jobs, hold]
    rw [hj] at first
    exact ⟨fun i hi => rows i (split.order.mem hi), nofun, first⟩
  · obtain ⟨staging, counts, fed, runs⟩ := h.engine.loads l
    refine ⟨staging.depart split byReset, counts.depart h.engine.base split byReset,
      headFed_of_head jobs (by rw [← List.tail_cons (a := j) (as := kept), ← jobs]; exact base.behind)
        (fun h' r fn total got hb => ?_) ?_⟩
    · have load : j.isLoad = true := by simp [Job.isLoad, hb]
      have feeding : s.feeding = some j := by
        unfold State.feeding
        rw [hj]
        exact List.find?_cons_of_pos load
      have stays : ¬ ∃ g ∈ gone, g.number = j.number := fun ⟨g, hg, e⟩ =>
        split.apart h.engine.base.apart g hg j List.mem_cons_self e
      rw [State.depart_named h.engine.base.planes split byReset List.mem_cons_self
        (by simp [Job.names, hb, JobBody.planes]), State.depart_staging, stagingAfter_eq, feeding]
      dsimp only
      rw [if_neg stays]
      exact fed j (hj ▸ List.mem_cons_self) h' r fn total got hb
    · rw [timer, runs, hj]
      exact if_congr ⟨Option.some.inj, congrArg some⟩ rfl rfl
  · rw [jobs] at hi
    exact h.head i (by rw [hj]; exact hi)

/-- While the head waits, nothing is held and no data is awaited. -/
theorem Settled.waiting (h : Settled R L s) (still : ∀ j ∈ s.jobs.head?, j.running = false) :
    (R → s.writeHold = none) ∧ (L → s.dataTimer = .stopped) := by
  refine ⟨fun r => ?_, fun l => ?_⟩
  · obtain ⟨-, idle, head⟩ := h.engine.running r
    cases hj : s.jobs with
    | nil => exact idle hj
    | cons j rest => exact (head j (by rw [hj]; rfl)).2 (still j (by rw [hj]; rfl))
  · obtain ⟨-, -, -, timer⟩ := h.engine.loads l
    rw [timer, if_neg]
    intro awaits
    obtain ⟨j, hj, is⟩ := Option.map_eq_some_iff.mp awaits
    have := still j hj
    simp [Job.running, is] at this

/-- A departure that takes a waiting head with it. -/
theorem Settled.departWaiting (h : Settled R L s) (still : ∀ j ∈ s.jobs.head?, j.running = false) {gone kept : List Job}
    (split : Splits s.jobs gone kept) (queued : ∀ j ∈ kept, j.state = .queued) (byReset : Bool) :
    Engine R L (s.depart gone kept byReset) := by
  obtain ⟨free, stopped⟩ := h.waiting still
  have jobs : (s.depart gone kept byReset).jobs = kept := State.depart_jobs ..
  have hold : (s.depart gone kept byReset).writeHold = s.writeHold := by rw [s.depart_frame]
  have timer : (s.depart gone kept byReset).dataTimer = s.dataTimer := by rw [s.depart_frame]
  refine ⟨h.engine.base.depart split byReset, fun r => ?_, fun l => ?_⟩
  · obtain ⟨rows, -, -⟩ := h.engine.running r
    unfold RunningLaw
    rw [jobs, hold, free r]
    refine ⟨fun i hi => rows i (split.order.mem hi), fun _ => rfl, fun i hi => ⟨fun run => ?_, fun _ => rfl⟩⟩
    simp [Job.running, queued i (List.mem_of_mem_head? hi)] at run
  · obtain ⟨staging, counts, -, -⟩ := h.engine.loads l
    refine ⟨staging.depart split byReset, counts.depart h.engine.base split byReset, fun i hi _ _ _ _ _ _ => ?_, ?_⟩
    · rw [jobs] at hi
      exact ⟨fun a => JobState.noConfusion ((queued i hi).symm.trans a), fun a => JobState.noConfusion ((queued i hi).symm.trans a)⟩
    · rw [timer, jobs, stopped l, if_neg]
      intro awaits
      obtain ⟨i, hi, is⟩ := Option.map_eq_some_iff.mp awaits
      exact JobState.noConfusion ((queued i (List.mem_of_mem_head? hi)).symm.trans is)

/-! ## CANCEL and FLUSH (R52, R54) -/

/-- The queue without one of its jobs. -/
theorem filter_number {front back : List Job} (apart : (front ++ j :: back).Pairwise (fun i j => ¬ i.number = j.number)) :
    (front ++ j :: back).filter (fun i => !(i.number == j.number)) = front ++ back := by
  obtain ⟨-, behind, before⟩ := List.pairwise_append.mp apart
  obtain ⟨behind, -⟩ := List.pairwise_cons.mp behind
  rw [List.filter_append, List.filter_cons_of_neg (by simp)]
  congr 1
  · exact List.filter_eq_self.mpr fun i hi => by simpa using before i hi j List.mem_cons_self
  · exact List.filter_eq_self.mpr fun i hi => by simpa using fun e => behind i hi e.symm

theorem Splits.one (front back : List Job) : Splits (front ++ j :: back) [j] (front ++ back) :=
  ⟨(List.perm_middle (l₁ := front) (l₂ := back)).symm, (List.Sublist.refl front).append (List.sublist_cons_self j back)⟩

/-- The removal of one waiting job, which is the head or stands behind it. -/
theorem State.removeWaiting_eq {front back : List Job} (hs : s.jobs = front ++ j :: back)
    (apart : s.jobs.Pairwise (fun i j => ¬ i.number = j.number)) :
    s.removeWaiting j =
      if front = [] then (s.depart [j] back false).examine else s.depart [j] (front ++ back) false := by
  rw [hs] at apart
  unfold State.removeWaiting
  dsimp only
  rw [hs, filter_number apart]
  cases front with
  | nil => simp
  | cons i front =>
    have other : ¬ i.number = j.number := (List.pairwise_cons.mp apart).1 j (by simp)
    simp [other]

theorem find?_number {n : Nat} (hj : s.jobs.find? (fun j => j.number == n) = some j) :
    j.number = n ∧ ∃ front back, s.jobs = front ++ j :: back := by
  obtain ⟨front, back, is, -, found⟩ := exists_first hj
  exact ⟨by simpa using found, front, back, is⟩

theorem Settled.removeWaiting (h : Settled R L s) {front back : List Job} (hs : s.jobs = front ++ j :: back)
    (hr : j.running = false) : Settled R L (s.removeWaiting j) := by
  rw [State.removeWaiting_eq hs h.engine.base.apart]
  split
  · next first =>
    subst first
    refine (h.departWaiting (fun i hi => ?_) (hs ▸ Splits.one (j := j) [] back) (fun i hi => ?_) false).settled
    · rw [hs] at hi
      cases hi
      exact hr
    · exact h.engine.base.behind i (by rw [hs]; exact hi)
  · cases front with
    | nil => contradiction
    | cons i front => exact h.departBehind hs (.one (i :: front) back) false

/-- A job that runs is the head. -/
theorem EngineBase.runs_head (h : EngineBase s) {front back : List Job} (hs : s.jobs = front ++ j :: back)
    (hr : j.running = true) : front = [] := by
  cases front with
  | nil => rfl
  | cons i front =>
    have queued := h.behind j (by rw [hs]; simp)
    simp [Job.running, queued] at hr

theorem keptHead_cons (hj : s.jobs = j :: rest) : s.keptHead = if j.running = true then [j] else [] := by
  unfold State.keptHead
  rw [hj]
  cases h : j.running <;> simp [h]

/-- The first part of a FLUSH or of an ENGINE reset leaves the head alone, if it runs, and nothing otherwise. -/
theorem Settled.flushWaiting (h : Settled R L s) (byReset : Bool) :
    Settled R L (s.flushWaiting byReset) ∧ (s.flushWaiting byReset).jobs.tail = [] := by
  have empty (still : ∀ j ∈ s.jobs.head?, j.running = false) :
      Settled R L (s.depart s.jobs [] byReset) ∧ (s.depart s.jobs [] byReset).jobs.tail = [] := by
    have jobs : (s.depart s.jobs [] byReset).jobs = [] := State.depart_jobs ..
    refine ⟨⟨h.departWaiting still ⟨by rw [List.append_nil], List.nil_sublist _⟩ nofun byReset, fun i hi => ?_⟩, by rw [jobs]; rfl⟩
    rw [jobs] at hi
    cases hi
  unfold State.flushWaiting State.flushedJobs
  cases hj : s.jobs with
  | nil =>
    have kept : s.keptHead = [] := by
      unfold State.keptHead
      rw [hj]
      rfl
    rw [kept]
    have gone := empty (by rw [hj]; nofun)
    rw [hj] at gone
    exact gone
  | cons j rest =>
    rw [keptHead_cons hj]
    cases hr : j.running with
    | true =>
      rw [if_pos rfl]
      refine ⟨h.departBehind (gone := rest) hj ⟨List.perm_append_comm, ?_⟩ byReset, rfl⟩
      exact (List.nil_sublist rest).cons_cons j
    | false =>
      rw [if_neg nofun]
      have gone := empty fun i hi => by
        rw [hj] at hi
        cases hi
        exact hr
      rw [hj] at gone
      exact gone

/-! ## ENGINE reset (R23, R57) -/

/-- A row of steps that each change the record of their own plane alone. -/
theorem plane_foldl_each {f : State → Nat → State} {g : Plane → Plane}
    (hf : ∀ t k h, 1 ≤ k → k ≤ 24 → (f t k).plane h = if h = k then g (t.plane h) else t.plane h) {l : List Nat}
    (once : l.Nodup) (inTable : ∀ k ∈ l, 1 ≤ k ∧ k ≤ 24) (s : State) (h : Nat) :
    (l.foldl f s).plane h = if h ∈ l then g (s.plane h) else s.plane h := by
  induction l generalizing s with
  | nil => rfl
  | cons k l ih =>
    obtain ⟨fresh, once⟩ := List.nodup_cons.mp once
    obtain ⟨low, high⟩ := inTable k List.mem_cons_self
    rw [List.foldl_cons, ih once fun i hi => inTable i (List.mem_cons_of_mem _ hi), hf s k h low high]
    by_cases e : h = k
    · rw [e, if_neg fresh, if_pos rfl, if_pos List.mem_cons_self]
    · rw [if_neg e]
      exact if_congr ⟨List.mem_cons_of_mem _, fun m => (List.mem_cons.mp m).resolve_left e⟩ rfl rfl

/-- A record as an ENGINE reset leaves it. -/
def Plane.engineReset (p : Plane) : Plane :=
  match p.state with
  | .free => p
  | .live => { p with refCount := 0 }
  | .retiring => freePlaneRecord

theorem State.resetPlane_plane (s : State) (k h : Nat) (low : 1 ≤ k) (high : k ≤ 24) :
    (s.resetPlane k).plane h = if h = k then (s.plane h).engineReset else s.plane h := by
  have own {p : Plane} (is : (s.plane k).engineReset = p) :
      (if h = k then p else s.plane h) = if h = k then (s.plane h).engineReset else s.plane h := by
    by_cases e : h = k
    · rw [if_pos e, if_pos e, e, is]
    · rw [if_neg e, if_neg e]
  unfold State.resetPlane
  split
  · next free =>
    rw [← own (p := s.plane k) (by unfold Plane.engineReset; rw [free])]
    by_cases e : h = k
    · rw [if_pos e, e]
    · rw [if_neg e]
  · next live =>
    rw [State.plane_setPlane s h k _ low high]
    exact own (by unfold Plane.engineReset; simp only [live])
  · next retiring =>
    rw [s.releasePlane_plane]
    exact own (by unfold Plane.engineReset; rw [retiring])

theorem State.resetPlanes_plane (s : State) (h : Nat) :
    (allHandles.foldl State.resetPlane s).plane h = (s.plane h).engineReset := by
  rw [plane_foldl_each State.resetPlane_plane allHandles_nodup (fun _ => mem_allHandles.mp) s h]
  split
  · rfl
  · next out =>
    rw [mem_allHandles] at out
    rw [State.plane_outside s h (by omega)]
    rfl

theorem Engine.finishEngineReset (h : Engine R L s) (none : s.jobs = []) : Settled R L s.finishEngineReset := by
  have planes : EngineOnly s (allHandles.foldl State.resetPlane s) := .foldl _ .resetPlane _ s
  have counter : (allHandles.foldl State.resetPlane s).jobCounter = s.jobCounter := planes.keeps.2.2.1
  have jobs : (allHandles.foldl State.resetPlane s).jobs = [] := by
    have each (l : List Nat) (t : State) : (l.foldl State.resetPlane t).jobs = t.jobs := by
      induction l generalizing t with
      | nil => rfl
      | cons k l ih =>
        refine (ih _).trans ?_
        unfold State.resetPlane
        split
        · rfl
        · exact State.setPlane_jobs ..
        · exact State.setPlane_jobs ..
    exact (each _ s).trans none
  have plane := s.resetPlanes_plane
  rw [State.finishEngineReset_eq]
  generalize allHandles.foldl State.resetPlane s = t at counter jobs plane
  have empty : t.resetDone.jobs = [] := jobs
  have planes : PlaneLaw t.resetDone := by
    refine ⟨fun i low high => ?_, nofun⟩
    obtain ⟨free, -, due⟩ := h.base.planes.1 i low high
    have zero (k : Nat) : (t.resetDone.jobs.filter (fun j => j.names k)).length = 0 := by rw [empty]; rfl
    have is : t.resetDone.plane i = (s.plane i).engineReset := plane i
    rw [is, zero]
    unfold Plane.engineReset
    split
    · next hf =>
      rw [free hf]
      exact ⟨fun _ => rfl, rfl, nofun⟩
    · next hl =>
      exact ⟨fun hf => PlaneState.noConfusion (hl.symm.trans hf), rfl,
        fun hd => PlaneState.noConfusion (hl.symm.trans (due hd).1)⟩
    · exact ⟨fun _ => rfl, rfl, nofun⟩
  refine ⟨⟨⟨?_, ?_, ?_, ?_, ?_, ?_, nofun, planes⟩, fun _ => ⟨?_, fun _ => rfl, ?_⟩, fun _ => ⟨?_, ?_, ?_, ?_⟩⟩, ?_⟩
  · rw [empty]
    exact Nat.zero_le _
  · rw [empty]
    nofun
  · rw [empty]
    nofun
  · rw [empty]
    exact .nil
  · rw [empty]
    nofun
  · have same : t.resetDone.jobCounter = s.jobCounter := counter
    rw [same]
    exact h.base.counter
  · rw [empty]
    nofun
  · rw [empty]
    nofun
  · exact ⟨Nat.zero_le _, fun _ => rfl⟩
  · unfold LoadCounts
    rw [empty]
    nofun
  · rw [empty]
    nofun
  · rw [empty]
    rfl
  · unfold HeadSettled
    rw [empty]
    nofun

/-! ## Boundaries (R52, R54, R57, R66) -/

theorem State.stopHeadForReset_jobs (s : State) (j : Job) : (s.stopHeadForReset j).jobs = s.jobs.tail := by
  have recorded : (s.recordRows j.rowsDone).jobs = s.jobs := (PortsOnly.recordRows s j.rowsDone).sameCore.jobs
  show (s.recordRows j.rowsDone).jobs.tail = _
  rw [recorded]

theorem State.stopHead_jobs (s : State) (j : Job) : (s.stopHead j).jobs = s.jobs.tail := by
  have gone (t : State) (rows : Nat) : ((t.recordRows rows).releaseWriteHold).jobs.tail = t.jobs.tail :=
    congrArg List.tail (t.freed_core rows).jobs
  unfold State.stopHead
  refine (gone _ j.rowsDone).trans ?_
  split
  · rw [State.windUpPack_jobs]
  · rfl

theorem Leaving.stopAtBoundary (h : Leaving R L s) (pending : s.stopPending = true) (j : Job) :
    Settled R L (s.stopAtBoundary j) := by
  have last (hw : s.link.work.map Work.emptiesQueue = some true) : s.jobs.tail = [] := h.base.emptied hw
  unfold State.stopAtBoundary
  split
  · exact (h.stopHead j).settled.answer _
  · next hw =>
    refine Settled.answer ⟨h.stopHead j, fun i hi => ?_⟩ _
    rw [State.stopHead_jobs, last (by rw [hw]; rfl)] at hi
    cases hi
  · next hw =>
    refine (h.stopHeadForReset j).finishEngineReset ?_
    rw [State.stopHeadForReset_jobs, last (by rw [hw]; rfl)]
  · next no1 no2 no3 =>
    unfold State.stopPending at pending
    split at pending
    · next e => exact absurd e (no1 _)
    · next e => exact absurd e (no2 _ _ _)
    · next e => exact absurd e no3
    · cases pending

theorem Settled.afterRow {goesOn : State} (h : Leaving R L s) (k : Settled R L goesOn) (j : Job) (height : Nat)
    (st : Status) : Settled R L (s.afterRow j height st goesOn) := by
  unfold State.afterRow
  split
  · next pending => exact h.stopAtBoundary pending j
  · split
    · exact (h.endHead j st).settled
    · exact k

theorem Settled.beginEngineReset (h : Settled R L s) : Settled R L s.beginEngineReset := by
  obtain ⟨flushed, alone⟩ := h.flushWaiting true
  unfold State.beginEngineReset
  dsimp only
  generalize s.flushWaiting true = t at flushed alone
  split
  · next none => exact flushed.engine.finishEngineReset none
  · next j rest hj =>
    split
    · refine (flushed.engine.leaving.stopHeadForReset j).finishEngineReset ?_
      rw [State.stopHeadForReset_jobs, alone]
    · exact flushed.withWork _ nofun fun _ => alone

end Stops

end Sys2Proof.Machine
end

section
/-! Every act keeps the laws of the job engine and of the running job (O57), and those of the LOADs (O55). -/

namespace Sys2Proof.Machine

set_option Elab.async false

/-! ## DATA (R75, R78) -/

section Stage

variable {R L : Prop} {s : State} {f : Job} {bytes : List Byte}

theorem Job.received_eq (f : Job) (n : Nat) : f.received n = { f with body := (f.received n).body } := by
  obtain ⟨number, body, report, state, rows, fixed⟩ := f
  cases body <;> rfl

theorem Job.received_planes (f : Job) (n : Nat) : (f.received n).body.planes = f.body.planes := by
  obtain ⟨number, body, report, state, rows, fixed⟩ := f
  cases body <;> rfl

theorem Job.received_isLoad (f : Job) (n : Nat) : (f.received n).isLoad = f.isLoad := by
  obtain ⟨number, body, report, state, rows, fixed⟩ := f
  cases body <;> rfl

theorem Job.received_ownsHold (f : Job) (n : Nat) (w : Option Hold) : (f.received n).ownsHold w ↔ f.ownsHold w := by
  obtain ⟨number, body, report, state, rows, fixed⟩ := f
  cases body <;> rfl

theorem Job.received_load {f : Job} {n : Nat} {h : Nat} {r : Rect} {fn : BitVec 4} {total got : Nat}
    (hb : (f.received n).body = .load h r fn total got) : ∃ old, f.body = .load h r fn total old ∧ got = old + n := by
  obtain ⟨number, body, report, state, rows, fixed⟩ := f
  cases body with
  | load h' r' fn' total' old =>
    obtain ⟨rfl, rfl, rfl, rfl, rfl⟩ := JobBody.load.inj hb
    exact ⟨old, rfl, rfl⟩
  | fill | block | text | showPort | pack | mark => cases hb

theorem map_updateFirst {α β : Type} {g : α → β} {t : α → Bool} {u : α → α} (same : ∀ a, g (u a) = g a) (l : List α) :
    (updateFirst t u l).map g = l.map g := by
  induction l with
  | nil => rfl
  | cons a l ih =>
    unfold updateFirst
    split
    · rw [List.map_cons, List.map_cons, same]
    · rw [List.map_cons, List.map_cons, ih]

/-- The queue with the feeding LOAD's bytes received raised. -/
theorem State.stage_jobs (hf : s.feeding = some f) :
    ∃ front back, s.jobs = front ++ f :: back ∧ (s.stage bytes).jobs = front ++ f.received bytes.length :: back ∧
      (∀ i ∈ front, i.isLoad = false) ∧ f.isLoad = true := by
  obtain ⟨front, back, is, before, load⟩ := exists_first hf
  refine ⟨front, back, is, ?_, before, load⟩
  show updateFirst Job.isLoad (fun j => j.received bytes.length) s.jobs = _
  rw [is, updateFirst_split before load]

theorem EngineBase.stage (h : EngineBase s) (bytes : List Byte) : EngineBase (s.stage bytes) := by
  have map {β : Type} (g : Job → β) (same : ∀ j : Job, g (j.received bytes.length) = g j) :
      (s.stage bytes).jobs.map g = s.jobs.map g := map_updateFirst same s.jobs
  have state (j : Job) : (j.received bytes.length).state = j.state := by rw [j.received_eq]
  refine h.withJobs (map _ fun j => by rw [j.received_eq]) (map _ fun j => j.received_planes _) (fun j hj => ?_)
    (fun j hj => ?_) rfl (fun _ => rfl) rfl
  · have tails : (s.stage bytes).jobs.tail.map (·.state) = s.jobs.tail.map (·.state) := by
      rw [List.map_tail, List.map_tail, map _ state]
    have hm : j.state ∈ s.jobs.tail.map (·.state) := tails ▸ List.mem_map_of_mem hj
    obtain ⟨i, hi, e⟩ := List.mem_map.mp hm
    exact e ▸ h.behind i hi
  · have both := map (fun j => (j.state, j.isLoad)) fun j => Prod.ext (state j) (j.received_isLoad _)
    have hm : (j.state, j.isLoad) ∈ s.jobs.map (fun j => (j.state, j.isLoad)) := both ▸ List.mem_map_of_mem hj
    obtain ⟨i, hi, e⟩ := List.mem_map.mp hm
    obtain ⟨e, e'⟩ := Prod.mk.inj e
    rw [← e, ← e']
    exact h.awaits i hi

theorem RunningLaw.stage (h : RunningLaw s) (bytes : List Byte) : RunningLaw (s.stage bytes) := by
  obtain ⟨rows, idle, head⟩ := h
  have same (j : Job) : (j.received bytes.length).running = j.running ∧ (j.received bytes.length).rowsDone = j.rowsDone := by
    rw [j.received_eq]
    exact ⟨rfl, rfl⟩
  cases hj : s.jobs with
  | nil =>
    have none : (s.stage bytes).jobs = [] := by
      show updateFirst _ _ s.jobs = _
      rw [hj]
      rfl
    unfold RunningLaw
    rw [none]
    exact ⟨nofun, fun _ => idle hj, nofun⟩
  | cons i rest =>
    have jobs : (s.stage bytes).jobs = updateFirst Job.isLoad (fun j => j.received bytes.length) (i :: rest) :=
      congrArg _ hj
    have both : (s.stage bytes).jobs.map (fun j => (j.running, j.rowsDone)) = s.jobs.map (fun j => (j.running, j.rowsDone)) :=
      map_updateFirst (fun j => Prod.ext (same j).1 (same j).2) s.jobs
    have first := head i (by rw [hj]; rfl)
    refine ⟨fun j hm still => ?_, fun none => ?_, fun j hm => ?_⟩
    · have hm : (j.running, j.rowsDone) ∈ s.jobs.map (fun j => (j.running, j.rowsDone)) := both ▸ List.mem_map_of_mem hm
      obtain ⟨k, hk, e⟩ := List.mem_map.mp hm
      obtain ⟨e, e'⟩ := Prod.mk.inj e
      exact e'.symm.trans (rows k hk (e.trans still))
    · rw [jobs] at none
      unfold updateFirst at none
      split at none <;> cases none
    · rw [jobs] at hm
      unfold updateFirst at hm
      split at hm
      · cases hm
        rw [(same i).1, Job.received_ownsHold]
        exact first
      · cases hm
        exact first

theorem LoadCounts.stage (apart : s.jobs.Pairwise (fun i j => ¬ i.number = j.number)) (h : LoadCounts s)
    (hf : s.feeding = some f) (room : ¬ f.body.bytesWanted < bytes.length) : LoadCounts (s.stage bytes) := by
  obtain ⟨front, back, was, is, before, load⟩ := s.stage_jobs (bytes := bytes) hf
  have feeding : (s.stage bytes).feeding = some (f.received bytes.length) := by
    unfold State.feeding
    rw [is]
    exact find?_split before ((f.received_isLoad _).trans load)
  have number : (f.received bytes.length).number = f.number := by rw [f.received_eq]
  have other {j : Job} (hj : j ∈ front ++ back) : j ∈ s.jobs ∧ ¬ f.number = j.number := by
    rw [was] at apart ⊢
    obtain ⟨-, behind, across⟩ := List.pairwise_append.mp apart
    obtain hj | hj := List.mem_append.mp hj
    · exact ⟨List.mem_append_left _ hj, fun e => across j hj f List.mem_cons_self e.symm⟩
    · exact ⟨List.mem_append_right _ (List.mem_cons_of_mem _ hj), (List.pairwise_cons.mp behind).1 j hj⟩
  have length : (s.stage bytes).staging.length = s.staging.length + bytes.length := List.length_append
  intro j hj h' r fn total got hb
  rw [feeding, length]
  show total = r.w * (s.plane h').depth / 8 * r.h ∧ _
  have split : j = f.received bytes.length ∨ j ∈ front ++ back := by
    rw [is, List.mem_append, List.mem_cons] at hj
    rw [List.mem_append]
    tauto
  obtain rfl | hj := split
  · obtain ⟨old, hb', rfl⟩ := Job.received_load hb
    obtain ⟨size, most, fed, -⟩ := h f (by rw [was]; simp) h' r fn total old hb'
    have rows : (f.received bytes.length).rowsDone = f.rowsDone := by rw [f.received_eq]
    have fed := fed hf
    have wanted : f.body.bytesWanted = total - old := by
      rw [hb']
      rfl
    rw [wanted] at room
    refine ⟨size, by omega, fun _ => ?_, fun no => absurd rfl no⟩
    rw [rows, ← fed]
    show _ + r.w * (s.plane h').depth / 8 * _ = _
    omega
  · obtain ⟨hj, ne⟩ := other hj
    obtain ⟨size, most, -, young⟩ := h j hj h' r fn total got hb
    refine ⟨size, most, fun e => absurd ?_ ne, fun _ => young fun e => ne ?_⟩
    · exact number.symm.trans (congrArg Job.number (Option.some.inj e))
    · exact congrArg Job.number (Option.some.inj (hf.symm.trans e))

theorem StagingLaw.stage (h : StagingLaw s) (hf : s.feeding = some f) (room : ¬ s.stagingFree < bytes.length) :
    StagingLaw (s.stage bytes) := by
  obtain ⟨front, back, was, is, before, load⟩ := s.stage_jobs (bytes := bytes) hf
  refine ⟨?_, fun none => ?_⟩
  · have length : (s.stage bytes).staging.length = s.staging.length + bytes.length := List.length_append
    have most := h.1
    unfold State.stagingFree at room
    simp only [Config.stagingCapacity] at room
    omega
  · have feeding : (s.stage bytes).feeding = some (f.received bytes.length) := by
      unfold State.feeding
      rw [is]
      exact find?_split before ((f.received_isLoad _).trans load)
    cases feeding.symm.trans none

/-- The bytes staged, while the head's wait for them has not been looked at. -/
theorem Settled.stage (h : Settled R L s) (hf : s.feeding = some f) (wanted : ¬ f.body.bytesWanted < bytes.length)
    (room : ¬ s.stagingFree < bytes.length) : Leaving R L (s.stage bytes) :=
  ⟨h.engine.base.stage bytes, fun r => (h.engine.running r).stage bytes, fun l =>
    ⟨(h.engine.loads l).1.stage hf room, (h.engine.loads l).2.1.stage h.engine.base.apart hf wanted⟩⟩

/-- The head that the staged bytes find. -/
theorem State.stage_head (hf : s.feeding = some f) {j : Job} {rest : List Job} (hj : (s.stage bytes).jobs = j :: rest) :
    ∃ i rest', s.jobs = i :: rest' ∧ j.state = i.state ∧
      ∀ h r fn total got, j.body = .load h r fn total got → ∃ old, i.body = .load h r fn total old := by
  obtain ⟨front, back, was, is, before, load⟩ := s.stage_jobs (bytes := bytes) hf
  rw [hj] at is
  cases front with
  | nil =>
    obtain ⟨rfl, -⟩ := List.cons.inj is
    refine ⟨f, back, was, by rw [f.received_eq], fun h r fn total got hb => ?_⟩
    obtain ⟨old, hb, -⟩ := Job.received_load hb
    exact ⟨old, hb⟩
  | cons i front =>
    obtain ⟨rfl, -⟩ := List.cons.inj is
    exact ⟨j, _, was, rfl, fun h r fn total got hb => ⟨got, hb⟩⟩

/-- The bytes staged, and an AWAITING_DATA LOAD that goes on or waits again. -/
theorem Settled.staged (h : Settled R L s) (hf : s.feeding = some f) (wanted : ¬ f.body.bytesWanted < bytes.length)
    (room : ¬ s.stagingFree < bytes.length) : Settled R L (s.stage bytes).afterStaging := by
  have left := h.stage hf wanted room
  have length : s.staging.length ≤ (s.stage bytes).staging.length := by
    show _ ≤ (s.staging ++ bytes).length
    rw [List.length_append]
    exact Nat.le_add_right _ _
  have found {j : Job} {rest : List Job} (hj : (s.stage bytes).jobs = j :: rest) := State.stage_head hf hj
  have some : ¬ (s.stage bytes).jobs = [] := by
    obtain ⟨front, back, -, is, -⟩ := s.stage_jobs (bytes := bytes) hf
    rw [is]
    simp
  have timer : (s.stage bytes).dataTimer = s.dataTimer := rfl
  have planes (i : Nat) : (s.stage bytes).plane i = s.plane i := rfl
  generalize s.stage bytes = t at left length found some timer planes
  have behind {j : Job} {rest : List Job} (hj : t.jobs = j :: rest) : ∀ i ∈ rest, i.state = .queued :=
    fun i hi => left.base.behind i (by rw [hj]; exact hi)
  /- Where the head does not await data, it is as well fed as before. -/
  have kept {j : Job} {rest : List Job} (hj : t.jobs = j :: rest) (hs : ¬ j.state = .awaitingData) : Settled R L t := by
    obtain ⟨i, rest', was, state, loads⟩ := found hj
    refine ⟨left.fed fun l => headFed_of_head hj (behind hj) (fun h' r fn total got hb => ⟨fun ha => ?_, fun hw => absurd hw hs⟩) ?_,
      fun k hk => ?_⟩
    · obtain ⟨old, hb⟩ := loads h' r fn total got hb
      rw [planes]
      have fed := (h.engine.loads l).2.2.1 i (by rw [was]; exact List.mem_cons_self) h' r fn total old hb
      exact (fed.1 (state ▸ ha)).trans length
    · rw [if_neg hs, timer, (h.engine.loads l).2.2.2, was, if_neg]
      exact fun hw => hs (state.trans (Option.some.inj hw))
    · rw [hj] at hk
      cases hk
      rw [state]
      exact h.head i (by rw [was]; rfl)
  unfold State.afterStaging
  split
  · next none => exact absurd none some
  · next j rest hj =>
    split
    · next ha =>
      have load := left.base.awaits j (hj ▸ List.mem_cons_self) ha
      obtain ⟨h', r, fn, total, got, hb⟩ : ∃ h r fn total got, j.body = .load h r fn total got := by
        unfold Job.isLoad at load
        split at load
        · next hb => exact ⟨_, _, _, _, _, hb⟩
        · cases load
      have rowBytes : t.rowBytesOf j = r.w * (t.plane h').depth / 8 := by
        unfold State.rowBytesOf
        rw [hb]
        rfl
      split
      · next enough =>
        rw [rowBytes] at enough
        have jobs : (State.setHead { t with dataTimer := .stopped } { j with state := .active }).jobs =
            { j with state := .active } :: rest := by
          show _ :: t.jobs.tail = _
          rw [hj]
          rfl
        have step : HeadStep t j rest (State.setHead { t with dataTimer := .stopped } { j with state := .active })
            { j with state := .active } := {
          old := hj, jobs := jobs, counter := rfl, plane := fun _ => rfl, work := rfl, hold := rfl, number := rfl
          planes := rfl, load := rfl
          runs := ⟨by simp [Job.running, ha], rfl⟩
          awaits := nofun
          owns := fun _ => id
          staging := fun _ => rfl }
        have woken := left.step step (fun l => (left.loads l).1.1) fun l h2 r2 fn2 total2 got2 hb2 =>
          (left.loads l).2.head hj hb2
        refine ⟨woken.fed fun _ => headFed_of_head jobs (behind hj) (fun h2 r2 _ _ _ hb2 => ⟨fun _ => ?_, nofun⟩) rfl,
          fun k hk => ?_⟩
        · obtain ⟨rfl, rfl, -⟩ := JobBody.load.inj (hb.symm.trans hb2)
          exact enough
        · rw [jobs] at hk
          cases hk
          nofun
      · next short =>
        rw [rowBytes] at short
        have again : Leaving R L { t with dataTimer := .running Config.dataTimeoutMs } :=
          ⟨left.base.withJobs rfl rfl left.base.behind left.base.awaits rfl (fun _ => rfl) rfl, left.running, left.loads⟩
        refine ⟨again.fed fun _ => headFed_of_head hj (behind hj) (fun h2 r2 _ _ _ hb2 => ⟨fun hr => ?_, fun _ => ?_⟩) ?_,
          fun k hk => ?_⟩
        · exact JobState.noConfusion (ha.symm.trans hr)
        · obtain ⟨rfl, rfl, -⟩ := JobBody.load.inj (hb.symm.trans hb2)
          exact Nat.not_le.mp short
        · rw [if_pos ha]
          rfl
        · have hk : k ∈ t.jobs.head? := hk
          rw [hj] at hk
          cases hk
          exact fun queued => JobState.noConfusion (ha.symm.trans queued)
    · next hs => exact kept hj fun ha => JobState.noConfusion (hs.symm.trans ha)
    · next hs => exact kept hj fun ha => JobState.noConfusion (hs.symm.trans ha)
    · next hs => exact kept hj fun ha => JobState.noConfusion (hs.symm.trans ha)

end Stage

/-! ## The acts -/

section Acts

variable {R L : Prop} {s u : State}

theorem QuietWork.harmless {w : Option Work} (h : QuietWork w) :
    (∀ q, ¬ w = some (.query q)) ∧ ¬ w.map Work.emptiesQueue = some true := by
  obtain rfl | ⟨n, rfl⟩ | ⟨k, rfl⟩ | ⟨k, rfl⟩ := h <;> exact ⟨nofun, nofun⟩

theorem EngineOnly.work {t : State} (h : EngineOnly s t) : t.link.work = s.link.work := congrArg Link.work h.link

theorem Settled.afterStreaming (h : Settled R L s) (order : BoundaryOrder) : Settled R L (s.afterStreaming order) := by
  cases order
  · exact h.recheckHead.congr (PortsOnly.giveBack _).sameCore
  · exact (h.congr (PortsOnly.giveBack s).sameCore).recheckHead

theorem SameCore.pushNotice (s : State) (c : NoticeContent) : SameCore s (s.pushNotice c) :=
  ⟨rfl, rfl, fun _ => rfl, rfl, rfl, rfl, rfl⟩

theorem SameCore.setBusyLine (s : State) (p : Port) (v : Bool) : SameCore s (s.setBusyLine p v) := by
  cases p <;> exact ⟨rfl, rfl, fun _ => rfl, rfl, rfl, rfl, rfl⟩

theorem SameCore.endAbandoned (s : State) (p : Port) : SameCore s (s.endAbandoned p) := by
  unfold State.endAbandoned
  dsimp only
  split
  · exact ((PortsOnly.setPort s p _).trans (.claimBus _ p)).sameCore
  · exact (PortsOnly.setPort s p _).sameCore

theorem SameCore.completeRefresh (s : State) (p : Port) (set : RefreshSet) : SameCore s (s.completeRefresh p set) := by
  have pushed : SameCore s ((s.setPort p ((s.port p).completed set)).pushNotice (refreshEnd p (s.port p) set)) :=
    (PortsOnly.setPort s p _).sameCore.trans (.pushNotice _ _)
  unfold State.completeRefresh
  dsimp only
  split
  · exact pushed.trans (PortsOnly.claimBus _ p).sameCore
  · exact pushed

theorem SameCore.lineFallen (s : State) (p : Port) : SameCore s (s.lineFallen p) := by
  unfold State.lineFallen
  split
  · exact .completeRefresh s p _
  · exact .endAbandoned s p
  · exact ((PortsOnly.setPort s p _).trans (.claimBus _ p)).sameCore
  · exact .refl s

theorem SameCore.busyExpired (s : State) (p : Port) : SameCore s (s.busyExpired p) := by
  unfold State.busyExpired State.enterFault
  split
  · exact (PortsOnly.setPort s p _).sameCore.trans (.pushNotice _ _)
  · exact .endAbandoned s p
  · exact (PortsOnly.setPort s p _).sameCore.trans (.pushNotice _ _)
  · exact .refl s

/-- Every act keeps the laws of the engine. -/
theorem Act.settled (act : Act s u) (h : Settled R L s) : Settled R L u := by
  have query := h.engine.base.planes.2
  have emptied := h.engine.base.emptied
  have same {t : State} (core : SameCore s t) : Settled R L t := h.congr core
  have none (i : Nat) (low : 1 ≤ i) (high : i ≤ 24) := h.engine.base.planes.1 i low high
  cases act with
  | idle => exact h
  | work w _ hw => exact h.withWork _ (fun q hq => absurd hq (hw.harmless.1 q)) fun he => absurd he hw.harmless.2
  | blank _ hb _ _ =>
    obtain ⟨base, head⟩ := engineLaw_iff.mp hb.engineLaw
    exact ⟨⟨base, fun _ => hb.runningLaw, fun _ => ⟨hb.stagingLaw, loadLaw_iff.mp hb.loadLaw⟩⟩, head⟩
  | patterns | fontMade | glyphAppended | fontDropped => exact same ⟨rfl, rfl, fun _ => rfl, rfl, rfl, rfl, rfl⟩
  | planeMade width height depth fill k first left hf hp hh ha hw =>
    obtain ⟨free, ⟨low, high⟩, -⟩ := State.freeHandle_eq_some.mp hh
    have zero : (s.plane k).refCount = 0 := by rw [(none k low high).1 free]; rfl
    have listed : Settled R L { s with freeList := left } := same ⟨rfl, rfl, fun _ => rfl, rfl, rfl, rfl, rfl⟩
    have made : Settled R L (State.setPlane { s with freeList := left } k (newPlaneRecord width height depth first)) := by
      refine ⟨listed.engine.setPlane k nofun (fun _ _ => ?_) nofun (fun _ _ _ => rfl) (.inl rfl),
        listed.head.congr (State.setPlane_jobs ..)⟩
      exact (h.engine.base.planes.unnamed zero low high).symm
    exact made.withWork _ nofun nofun
  | fillEnded k v hw =>
    have filled : Settled R L (s.fillPlane k v) := same ⟨rfl, rfl, fun _ => rfl, rfl, rfl, rfl, rfl⟩
    exact (filled.answer _).retryPack
  | planeFreed k hs hb hp hr hw =>
    exact ⟨h.engine.releasePlane hr (by rw [hw]; nofun), h.head.congr (State.setPlane_jobs ..)⟩
  | planeRetired k hs hb hp hr hw =>
    obtain ⟨low, high⟩ := State.handle_of_used (s := s) (h := k) (by rw [hs]; nofun)
    obtain ⟨-, count, due⟩ := none k low high
    refine ⟨h.engine.setPlane k nofun (fun _ _ => count) (fun hd => ⟨rfl, (due hd).2⟩) (fun q hq => ?_) (.inr rfl),
      h.head.congr (State.setPlane_jobs ..)⟩
    rw [hw] at hq
    cases hq
  | submitted b report hr hp hw => exact h.accept hw hr (State.planeStatus_live hp) report
  | waitingRemoved n j hj hr hw =>
    obtain ⟨-, front, back, is⟩ := find?_number hj
    exact h.removeWaiting is hr
  | runningStopped n j hj hr hw => exact (h.engine.leaving.stopHead j).settled
  | flushed ht hw => exact (h.flushWaiting false).1
  | flushStopped j rest ht hw =>
    obtain ⟨flushed, alone⟩ := h.flushWaiting false
    refine ⟨flushed.engine.leaving.stopHead j, fun i hi => ?_⟩
    rw [State.stopHead_jobs, alone] at hi
    cases hi
  | flushWaits j rest count first last ht hw =>
    obtain ⟨flushed, alone⟩ := h.flushWaiting false
    exact flushed.withWork _ nofun fun _ => alone
  | staged j bytes hj hb hs => exact h.staged hj hb hs
  | rowEnded j rest t goesOn height st hj ha hd =>
    obtain ⟨drawn, goes⟩ := h.rowDrawn hj ha hd
    exact .afterRow drawn goes j.nextRow height st
  | timedOut j rest hj ha => exact (h.engine.leaving.endHead j _).settled
  | extentMoved j rest x t hj hp hl hm =>
    have moved : Settled R L (s.moveExtent x t) := by
      have frame := s.moveExtent_frame x t
      refine h.sameRefs (.moveExtent hm) ?_ ?_ ?_ ?_ ?_ ?_ ?_ <;> rw [frame]
      · exact query
      · exact emptied
    have jobs : (s.moveExtent x t).jobs = j :: rest := by rw [s.moveExtent_frame, ← hj]
    obtain ⟨pack, active⟩ : j.body = .pack ∧ j.state = .active := by
      unfold State.packActive at hp
      rw [hj] at hp
      simpa using hp
    have counted : Settled R L ((s.moveExtent x t).setHead j.nextRow) := by
      refine moved.nextRow jobs active (by simp [Job.isLoad, pack]) ⟨?_, rfl, fun _ => rfl, rfl, rfl, rfl, rfl⟩
      show _ :: (s.moveExtent x t).jobs.tail = _
      rw [jobs]
      rfl
    unfold State.extentMoved
    dsimp only
    generalize (s.moveExtent x t).setHead j.nextRow = v at counted
    split
    · next pending => exact counted.engine.leaving.stopAtBoundary pending _
    · cases he : (v.packProceed j.nextRow).2 with
      | true => exact (counted.engine.packProceed _).settled
      | false =>
        refine ⟨counted.engine.packProceed _, counted.head.congr ?_⟩
        show (v.packProceed j.nextRow).1.jobs = v.jobs
        unfold State.packProceed at he ⊢
        split
        · rfl
        · next stuck => rw [stuck] at he; cases he
  | engineReset hw => exact h.beginEngineReset
  | fullReset hw =>
    have marked : Settled R L { s with portA := s.portA.markAborting, portB := s.portB.markAborting } :=
      same ⟨rfl, rfl, fun _ => rfl, rfl, rfl, rfl, rfl⟩
    exact marked.withWork _ nofun nofun
  | queryClaimed q hr hq hw =>
    have occupied : Settled R L (s.occupy (.query q)) := by
      refine h.withWork _ (fun q' hq' => ?_) nofun
      cases hq'
      exact (State.panelStatus_none hq).2.1
    exact occupied.congr (PortsOnly.arbitrate _).sameCore
  | queried q id hb hw =>
    have live := query q hw
    have result : Settled R L (s.queryResult q id) := by
      unfold State.queryResult
      split
      · have refs : SameRefs s (s.configure q id.toNat) := .configure live id.toNat
        have frame : s.configure q id.toNat =
            { s with
              planes := (s.configure q id.toNat).planes, portA := (s.configure q id.toNat).portA
              portB := (s.configure q id.toNat).portB } := by
          unfold State.configure State.bind State.unbind State.setPlane
          dsimp only
          cases q.port <;> (repeat' split) <;> rfl
        generalize s.configure q id.toNat = t at refs frame
        refine Settled.answer (h.sameRefs refs ?_ ?_ ?_ ?_ ?_ ?_ ?_) _ <;> rw [frame]
        · exact query
        · exact emptied
      · exact h.answer _
    exact result.congr (PortsOnly.giveBack _).sameCore
  | portReleased p hs hb hw =>
    have frame : s.unbind p = { s with planes := (s.unbind p).planes } := by
      unfold State.unbind State.setPlane
      dsimp only
      repeat' split
      all_goals rfl
    have refs := SameRefs.unbind s p
    generalize s.unbind p = t at refs frame
    have left : Settled R L t := by
      refine h.sameRefs refs ?_ ?_ ?_ ?_ ?_ ?_ ?_ <;> rw [frame]
      · exact query
      · exact emptied
    exact left.congr (PortsOnly.setPort t p _).sameCore
  | faultCleared p c hs => exact same (PortsOnly.setPort s p _).sameCore
  | transaction p set cmd mark hb => exact same (PortsOnly.setPort s p _).sameCore
  | updated p set mark order hb => exact (same (PortsOnly.setPort s p _).sameCore).afterStreaming order
  | aborted p set mark order hb => exact (same (PortsOnly.setPort s p _).sameCore).afterStreaming order
  | lineRose p => exact same (.setBusyLine s p true)
  | lineFell p => exact same ((SameCore.setBusyLine s p false).trans (.lineFallen _ p))
  | busyExpired p => exact same (.busyExpired s p)
  | holdOffExpired p =>
    exact same ((PortsOnly.setPort s p _).trans (.holdOffExpired _ p)).sameCore

/-! ## The obligation -/

theorem engineLaw_settled {s : State} : EngineLaw s ∧ (R → RunningLaw s) ∧ (L → StagingLaw s ∧ LoadLaw s) ↔ Settled R L s := by
  constructor
  · rintro ⟨engine, running, loads⟩
    obtain ⟨base, head⟩ := engineLaw_iff.mp engine
    exact ⟨⟨base, running, fun l => ⟨(loads l).1, loadLaw_iff.mp (loads l).2⟩⟩, head⟩
  · rintro ⟨⟨base, running, loads⟩, head⟩
    exact ⟨engineLaw_iff.mpr ⟨base, head⟩, running, fun l => ⟨(loads l).1, loadLaw_iff.mpr (loads l).2⟩⟩

theorem Settled.step {s t : State} (h : step s = .next t) (hs : Settled R L s) : Settled R L t :=
  step_keeps (L := Settled R L) (fun same k => k.congr same.sameCore)
    (fun _ k => k.congr ⟨rfl, rfl, fun _ => rfl, rfl, rfl, rfl, rfl⟩) Act.settled h hs

/-- Settles O57: the laws hold at every moment of a command but that the head may be unexamined (`Engine`), each operation
of the job engine keeps them, and an examination leaves the head examined. -/
theorem jobEngineKeepsItsLaws : Obligations.JobEngineKeepsItsLaws := by
  unfold Obligations.JobEngineKeepsItsLaws
  intro s t h
  refine ⟨fun engine => ?_, fun engine running => ?_⟩
  · have settled : Settled False False s := engineLaw_settled.mp ⟨engine, nofun, nofun⟩
    exact (engineLaw_settled.mpr (settled.step h)).1
  · have settled : Settled True False s := engineLaw_settled.mp ⟨engine, fun _ => running, nofun⟩
    exact (engineLaw_settled.mpr (settled.step h)).2.1 trivial

end Acts

end Sys2Proof.Machine
end

section
/-! The glyph index (R88, R92). -/

namespace Sys2Proof.Machine

set_option Elab.async false

section Glyphs

variable {g e : Glyph} {l : List Glyph}

theorem Glyph.before_iff : g.before e = true ↔ g.font < e.font ∨ g.font = e.font ∧ g.code < e.code := by
  simp [Glyph.before]

/-- Two records of the same font and code. -/
def Glyph.sameKey (g e : Glyph) : Prop := e.font = g.font ∧ e.code = g.code

theorem Glyph.before_of_sameKey {d : Glyph} (h : e.sameKey g) (k : e.before d = true) : g.before d = true := by
  obtain ⟨font, code⟩ := h
  rw [Glyph.before_iff] at k ⊢
  rw [font, code]
  exact k

theorem Glyph.before_trans {d : Glyph} (h : g.before e = true) (k : e.before d = true) : g.before d = true := by
  rw [Glyph.before_iff] at *
  omega

theorem Glyph.not_sameKey_of_before (h : g.before e = true) : ¬ g.sameKey e := by
  rintro ⟨font, code⟩
  rw [Glyph.before_iff] at h
  omega

/-- A record that is neither at `e`'s key nor before it is behind it. -/
theorem Glyph.before_of_not (other : ¬ (e.font = g.font ∧ e.code = g.code)) (notBefore : ¬ g.before e = true) :
    e.before g = true := by
  rw [Glyph.before_iff] at *
  omega

/-- The records of the index, with `g` placed. -/
theorem mem_placeGlyph (ordered : GlyphsOrdered l) {r : Glyph} :
    r ∈ placeGlyph g l ↔ r = g ∨ r ∈ l ∧ ¬ (r.font = g.font ∧ r.code = g.code) := by
  induction l with
  | nil => simp [placeGlyph]
  | cons e rest ih =>
    obtain ⟨first, ordered⟩ := List.pairwise_cons.mp ordered
    unfold placeGlyph
    split
    · next same =>
      have others : ∀ r ∈ rest, ¬ (r.font = g.font ∧ r.code = g.code) := fun r hr =>
        Glyph.not_sameKey_of_before (Glyph.before_of_sameKey (g := g) (e := e) ⟨same.1.symm, same.2.symm⟩ (first r hr))
      rw [List.mem_cons, List.mem_cons]
      constructor
      · rintro (h | h)
        · exact .inl h
        · exact .inr ⟨.inr h, others r h⟩
      · rintro (h | ⟨h | h, key⟩)
        · exact .inl h
        · exact absurd (h ▸ same) key
        · exact .inr h
    · next other =>
      split
      · next before =>
        have others : ∀ r ∈ e :: rest, ¬ (r.font = g.font ∧ r.code = g.code) := by
          intro r hr
          obtain rfl | hr := List.mem_cons.mp hr
          · exact other
          · exact Glyph.not_sameKey_of_before (Glyph.before_trans before (first r hr))
        rw [List.mem_cons]
        exact or_congr_right ⟨fun h => ⟨h, others r h⟩, And.left⟩
      · rw [List.mem_cons, List.mem_cons, ih ordered]
        constructor
        · rintro (rfl | h | ⟨h, key⟩)
          · exact .inr ⟨.inl rfl, other⟩
          · exact .inl h
          · exact .inr ⟨.inr h, key⟩
        · rintro (h | ⟨rfl | h, key⟩)
          · exact .inr (.inl h)
          · exact .inl rfl
          · exact .inr (.inr ⟨h, key⟩)

theorem placeGlyph_ordered (ordered : GlyphsOrdered l) : GlyphsOrdered (placeGlyph g l) := by
  induction l with
  | nil => exact List.pairwise_singleton _ _
  | cons e rest ih =>
    have whole := ordered
    obtain ⟨first, ordered⟩ := List.pairwise_cons.mp ordered
    unfold placeGlyph
    split
    · next same =>
      exact List.pairwise_cons.mpr
        ⟨fun r hr => Glyph.before_of_sameKey (e := e) ⟨same.1.symm, same.2.symm⟩ (first r hr), ordered⟩
    · next other =>
      split
      · next before =>
        refine List.pairwise_cons.mpr ⟨fun r hr => ?_, whole⟩
        obtain rfl | hr := List.mem_cons.mp hr
        · exact before
        · exact Glyph.before_trans before (first r hr)
      · next behind =>
        refine List.pairwise_cons.mpr ⟨fun r hr => ?_, ih ordered⟩
        obtain rfl | ⟨hr, -⟩ := (mem_placeGlyph ordered).mp hr
        · exact Glyph.before_of_not other behind
        · exact first r hr

theorem findGlyph_isNone {l : List Glyph} {font code : Nat} :
    (findGlyph l font code).isNone = true ↔ ∀ r ∈ l, ¬ (r.font = font ∧ r.code = code) := by
  simp [findGlyph]

/-- How many records there are of a kind that goes by font and code. -/
theorem placeGlyph_count (ordered : GlyphsOrdered l) {p : Glyph → Bool} (hp : ∀ g e, g.sameKey e → p e = p g) :
    ((placeGlyph g l).filter p).length =
      (l.filter p).length + if (findGlyph l g.font g.code).isNone = true ∧ p g = true then 1 else 0 := by
  have fresh {l : List Glyph} (none : ∀ r ∈ l, ¬ (r.font = g.font ∧ r.code = g.code)) :
      ((g :: l).filter p).length =
        (l.filter p).length + if (findGlyph l g.font g.code).isNone = true ∧ p g = true then 1 else 0 := by
    rw [List.filter_cons]
    simp only [findGlyph_isNone.mpr none, true_and]
    split <;> rfl
  induction l with
  | nil => exact fresh nofun
  | cons e rest ih =>
    obtain ⟨first, ordered⟩ := List.pairwise_cons.mp ordered
    unfold placeGlyph
    split
    · next same =>
      have known : ¬ (findGlyph (e :: rest) g.font g.code).isNone = true := fun none =>
        findGlyph_isNone.mp none e List.mem_cons_self same
      rw [if_neg fun h => known h.1, List.filter_cons, List.filter_cons, hp g e same]
      split <;> rfl
    · next other =>
      split
      · next before =>
        refine fresh fun r hr => ?_
        obtain rfl | hr := List.mem_cons.mp hr
        · exact other
        · exact Glyph.not_sameKey_of_before (Glyph.before_trans before (first r hr))
      · have same : (findGlyph (e :: rest) g.font g.code).isNone = (findGlyph rest g.font g.code).isNone := by
          rw [Bool.eq_iff_iff, findGlyph_isNone, findGlyph_isNone]
          exact ⟨fun h r hr => h r (List.mem_cons_of_mem _ hr), fun h r hr =>
            (List.mem_cons.mp hr).elim (fun e => e ▸ other) (h r)⟩
        rw [same, List.filter_cons, List.filter_cons]
        split
        · rw [List.length_cons, List.length_cons, ih ordered]
          omega
        · exact ih ordered

end Glyphs

/-! ## The fonts' laws -/

section Fonts

variable {s t : State}

theorem FontLaw.congr (h : FontLaw s) (fonts : ∀ i, t.font i = s.font i) (glyphs : t.glyphs = s.glyphs) : FontLaw t := by
  unfold FontLaw
  simp only [fonts, glyphs]
  exact h

/-- A record whose font's state, capacity and glyph count are as before. -/
theorem FontLaw.setFont (h : FontLaw s) {i : Nat} (hi : i ≤ 3) {f : Font} {glyphs : List Glyph}
    (count : glyphs.length ≤ 512) (ordered : GlyphsOrdered glyphs)
    (named : ∀ g ∈ glyphs, (g.font = i ∧ f.state = .defined ∧ g.offset + g.length ≤ f.usedBytes) ∨ (g ∈ s.glyphs ∧ ¬ g.font = i))
    (undefined : f.state = .undefined → f = undefinedFont) (used : f.usedBytes ≤ 256 * f.extent.count)
    (own : f.glyphCount = (glyphs.filter (fun g => g.font == i)).length)
    (others : ∀ k, ¬ k = i → (glyphs.filter (fun g => g.font == k)).length = (s.glyphs.filter (fun g => g.font == k)).length) :
    FontLaw { s.setFont i f with glyphs := glyphs } := by
  obtain ⟨-, -, glyph, font⟩ := h
  have read (k : Nat) : State.font { s.setFont i f with glyphs := glyphs } k = if k = i then f else s.font k :=
    State.font_setFont s k i f hi
  refine ⟨count, ordered, fun g hg => ?_, fun k hk => ?_⟩
  · rw [read]
    obtain ⟨e, state, within⟩ | ⟨hg, ne⟩ := named g hg
    · rw [if_pos e]
      exact ⟨e ▸ hi, state, within⟩
    · rw [if_neg ne]
      exact glyph g hg
  · rw [read]
    split
    · next e => exact ⟨undefined, used, e ▸ own⟩
    · next ne =>
      obtain ⟨blank, most, all⟩ := font k hk
      exact ⟨blank, most, all.trans (others k ne).symm⟩

theorem FontLaw.appendGlyph (h : FontLaw s) {g : Glyph} {bitmap : List Byte} (hid : g.font ≤ 3)
    (hd : ¬ (s.font g.font).state = .undefined) (ho : g.offset = (s.font g.font).usedBytes) (hl : g.length = bitmap.length)
    (hr : ¬ (s.font g.font).freeBytes < bitmap.length)
    (hc : ¬ ((findGlyph s.glyphs g.font g.code).isNone = true ∧ Config.glyphCapacity ≤ s.glyphs.length)) :
    FontLaw (s.appendGlyph g bitmap) := by
  have ⟨count, ordered, glyph, font⟩ := h
  obtain ⟨-, most, all⟩ := font g.font hid
  have defined : (s.font g.font).state = .defined := by
    cases hs : (s.font g.font).state with
    | undefined => exact absurd hs hd
    | defined => rfl
  have wrote : FontLaw (s.writeBytes (Config.blockBytes * (s.font g.font).extent.first + (s.font g.font).usedBytes) bitmap) :=
    h.congr (fun _ => rfl) rfl
  refine wrote.setFont hid (f := (s.font g.font).withGlyph bitmap.length (findGlyph s.glyphs g.font g.code).isNone)
    (glyphs := placeGlyph g s.glyphs) ?_ (placeGlyph_ordered ordered) (fun r hr => ?_)
    (fun u => absurd u hd) ?_ ?_ fun k ne => ?_
  · have placed := placeGlyph_count (g := g) ordered (p := fun _ => true) fun _ _ _ => rfl
    simp only [List.filter_true, and_true] at placed
    rw [placed]
    simp only [Config.glyphCapacity] at hc
    split
    · next none => exact Nat.lt_of_not_le fun full => hc ⟨none, full⟩
    · exact count
  · obtain rfl | ⟨hm, key⟩ := (mem_placeGlyph ordered).mp hr
    · refine .inl ⟨rfl, defined, ?_⟩
      rw [ho, hl]
      exact Nat.le_refl _
    · by_cases e : r.font = g.font
      · obtain ⟨-, -, within⟩ := glyph r hm
        rw [e] at within
        exact .inl ⟨e, defined, within.trans (Nat.le_add_right _ _)⟩
      · exact .inr ⟨hm, e⟩
  · show (s.font g.font).usedBytes + bitmap.length ≤ 256 * (s.font g.font).extent.count
    unfold Font.freeBytes at hr
    simp only [Config.blockBytes] at hr
    omega
  · rw [placeGlyph_count ordered fun g e same => by rw [same.1], ← all]
    show (if _ then _ else _) = _
    cases (findGlyph s.glyphs g.font g.code).isNone <;> simp
  · rw [placeGlyph_count ordered fun g e same => by rw [same.1], if_neg]
    · rfl
    · rintro ⟨-, e⟩
      exact ne (beq_iff_eq.mp e).symm

theorem FontLaw.dropFont (h : FontLaw s) {i : Nat} (hi : i ≤ 3) : FontLaw (s.dropFont i) := by
  have ⟨count, ordered, glyph, font⟩ := h
  have kept (k : Nat) : (s.glyphs.filter (fun g => !(g.font == i))).filter (fun g => g.font == k) =
      s.glyphs.filter (fun g => g.font == k && !(g.font == i)) := List.filter_filter
  have freed : FontLaw { s with freeList := releaseExtent s.freeList (s.font i).extent } := h.congr (fun _ => rfl) rfl
  refine freed.setFont hi (f := undefinedFont) (glyphs := s.glyphs.filter (fun g => !(g.font == i)))
    ((List.length_filter_le ..).trans count) (ordered.sublist List.filter_sublist) (fun g hg => ?_) (fun _ => rfl)
    (Nat.zero_le _) ?_ fun k ne => ?_
  · obtain ⟨hg, ne⟩ := List.mem_filter.mp hg
    exact .inr ⟨hg, by simpa using ne⟩
  · rw [kept, List.filter_eq_nil_iff.mpr]
    · rfl
    · intro g _
      cases g.font == i <;> simp
  · rw [kept]
    congr 1
    refine List.filter_congr fun g _ => ?_
    by_cases e : g.font = k
    · simp [e, ne]
    · simp [e]

end Fonts

end Sys2Proof.Machine
end

section
/-! The content of the store, the staging buffer, the fonts and the LOADs keep their laws (O55). -/

namespace Sys2Proof.Machine

set_option Elab.async false

variable {s t u : State} {j : Job} {rest : List Job}

/-! ## The content of the store -/

theorem RowDrawn.memoryWf {goesOn : State} {height : Nat} (h : RowDrawn s j t height goesOn) (law : memoryWf s.mem) :
    memoryWf t.mem ∧ goesOn.mem = t.mem := by
  cases h with
  | fill | block | text => exact ⟨writeCells_wf law _ _, rfl⟩
  | load =>
    refine ⟨writeCells_wf law _ _, ?_⟩
    unfold State.loadProceed
    split <;> rfl

theorem EngineOnly.mem (h : EngineOnly s t) : t.mem = s.mem := h.keeps.1

theorem State.finishEngineReset_mem (s : State) : s.finishEngineReset.mem = s.mem := by
  have planes : EngineOnly s (allHandles.foldl State.resetPlane s) := .foldl _ .resetPlane _ s
  have kept := planes.mem
  rw [State.finishEngineReset_eq]
  generalize allHandles.foldl State.resetPlane s = t at kept
  exact kept

theorem State.stopAtBoundary_mem (s : State) (j : Job) : (s.stopAtBoundary j).mem = s.mem := by
  unfold State.stopAtBoundary
  split
  · exact ((EngineOnly.stopHead s j).trans (.examine _)).mem
  · exact (EngineOnly.stopHead s j).mem
  · exact (State.finishEngineReset_mem _).trans (EngineOnly.stopHeadForReset s j).mem
  · rfl

theorem State.afterRow_mem {goesOn : State} (j : Job) (height : Nat) (st : Status) (h : goesOn.mem = s.mem) :
    (s.afterRow j height st goesOn).mem = s.mem := by
  unfold State.afterRow
  split
  · exact s.stopAtBoundary_mem j
  · split
    · exact ((EngineOnly.endHead s j st).trans (.examine _)).mem
    · exact h

theorem State.extentMoved_mem (s : State) (j : Job) (x : OwnedExtent) (b : Nat) :
    (s.extentMoved j x b).mem = (s.moveExtent x b).mem := by
  unfold State.extentMoved
  dsimp only
  split
  · exact State.stopAtBoundary_mem _ _
  · split
    · exact ((EngineOnly.packProceed _ _).trans (.examine _)).mem
    · exact (EngineOnly.packProceed _ _).mem

theorem State.beginEngineReset_mem (s : State) : s.beginEngineReset.mem = s.mem := by
  have flushed : EngineOnly s (s.flushWaiting true) := .depart s _ _ _
  unfold State.beginEngineReset
  dsimp only
  split
  · exact (State.finishEngineReset_mem _).trans flushed.mem
  · next j _ _ =>
    split
    · exact (State.finishEngineReset_mem _).trans (flushed.trans (.stopHeadForReset _ j)).mem
    · exact flushed.mem

theorem State.moveExtent_memoryWf (law : memoryWf s.mem) (x : OwnedExtent) (b : Nat) : memoryWf (s.moveExtent x b).mem := by
  unfold State.moveExtent State.relocate
  split
  · rw [State.setPlane_mem]
    exact State.copyBytes_wf law _ _ _
  · exact State.copyBytes_wf law _ _ _

theorem Act.memoryWf (act : Act s u) (law : memoryWf s.mem) : memoryWf u.mem := by
  have engine {t : State} (only : EngineOnly s t) : Machine.memoryWf t.mem := only.mem.symm ▸ law
  cases act with
  | idle | work | patterns | fontMade | fontDropped | fullReset => exact law
  | blank _ _ hm _ =>
    obtain same | none := hm
    · exact same.symm ▸ law
    · exact none.symm ▸ .nil
  | planeMade =>
    show Machine.memoryWf (State.setPlane _ _ _).mem
    rw [State.setPlane_mem]
    exact law
  | planeRetired => rw [State.setPlane_mem]; exact law
  | fillEnded k v hw =>
    unfold State.endFill
    dsimp only
    rw [(EngineOnly.retryPack _).mem]
    exact writeCells_wf law _ _
  | planeFreed h => exact engine (.releasePlane s h)
  | glyphAppended g bitmap => exact writeCells_wf law _ _
  | submitted b report =>
    have accepted : (s.accept b report).mem = s.mem := by rw [s.accept_frame]
    split
    · rw [(EngineOnly.examine _).mem, accepted]
      exact law
    · rw [accepted]
      exact law
  | waitingRemoved n j => exact engine (.removeWaiting s j)
  | runningStopped n j => exact engine ((EngineOnly.stopHead s j).trans (.examine _))
  | flushed => exact engine (.depart s _ _ _)
  | flushStopped j => exact engine ((EngineOnly.depart s _ _ _).trans (.stopHead _ j))
  | flushWaits =>
    have left : EngineOnly s (s.flushWaiting false) := .depart s _ _ _
    exact (left.mem.symm ▸ law : Machine.memoryWf (s.flushWaiting false).mem)
  | staged j bytes =>
    have kept : (s.stage bytes).afterStaging.mem = s.mem := by
      unfold State.afterStaging
      repeat' split
      all_goals rfl
    rw [kept]
    exact law
  | rowEnded j rest t goesOn height st hj ha hd =>
    obtain ⟨drawn, same⟩ := hd.memoryWf law
    rw [State.afterRow_mem _ _ _ same]
    exact drawn
  | timedOut j => exact engine ((EngineOnly.endHead s j _).trans (.examine _))
  | extentMoved j rest x b =>
    rw [State.extentMoved_mem]
    exact State.moveExtent_memoryWf law x b
  | engineReset => rw [State.beginEngineReset_mem]; exact law
  | queryClaimed => rw [(PortsOnly.arbitrate _).engine.mem]; exact law
  | queried q id => rw [(PortsOnly.giveBack _).engine.mem, s.queryResult_frame]; exact law
  | portReleased p =>
    rw [(PortsOnly.setPort _ p _).engine.mem, State.unbind_eq, State.setPlane_mem]
    exact law
  | faultCleared p | transaction p => exact engine (PortsOnly.setPort s p _).engine
  | updated p set mark order | aborted p set mark order => exact engine (.portThenStreaming s p _ order)
  | lineRose p => rw [State.setBusyLine_mem]; exact law
  | lineFell p => rw [(EngineOnly.lineFallen _ p).mem, State.setBusyLine_mem]; exact law
  | busyExpired p => exact engine (.busyExpired s p)
  | holdOffExpired p => exact engine ((PortsOnly.setPort s p _).trans (.holdOffExpired _ p)).engine

/-! ## The fonts -/

theorem EngineOnly.fontLaw (h : EngineOnly s t) (law : FontLaw s) : FontLaw t := by
  obtain ⟨-, -, -, fonts, glyphs, -⟩ := h.keeps
  exact law.congr (fun i => by unfold State.font; rw [fonts]) glyphs

theorem FontLaw.moveExtent (law : FontLaw s) {x : OwnedExtent} {b : Nat} (hm : s.nextMove = some (x, b)) :
    FontLaw (s.moveExtent x b) := by
  have copied : FontLaw
      { s.copyBytes (Config.blockBytes * x.extent.first) (Config.blockBytes * b) (Config.blockBytes * x.extent.count) with
        freeList := freeAfterMove s.freeList x.extent.first x.extent.count b } := law.congr (fun _ => rfl) rfl
  obtain ⟨k, -, -, is⟩ | ⟨i, hi, defined, is⟩ := mem_allocated.mp (mem_allocatedInOrder.mp (firstToMove_mem hm))
  · have owner : x.owner = .plane k := by rw [is]
    unfold State.moveExtent State.relocate
    rw [owner]
    exact (EngineOnly.setPlane _ k _).fontLaw copied
  · have owner : x.owner = .font i := by rw [is]
    unfold State.moveExtent State.relocate
    rw [owner]
    obtain ⟨count, ordered, glyph, font⟩ := law
    obtain ⟨-, used, own⟩ := font i hi
    refine copied.setFont hi (f := { s.font i with extent := { (s.font i).extent with first := b } }) (glyphs := s.glyphs)
      count ordered (fun g hg => ?_) (fun no => FontState.noConfusion (defined.symm.trans no)) used own fun _ _ => rfl
    by_cases e : g.font = i
    · obtain ⟨-, -, within⟩ := glyph g hg
      exact .inl ⟨e, defined, e ▸ within⟩
    · exact .inr ⟨hg, e⟩

theorem State.finishEngineReset_fontLaw (law : FontLaw s) : FontLaw s.finishEngineReset := by
  have planes : EngineOnly s (allHandles.foldl State.resetPlane s) := .foldl _ .resetPlane _ s
  have kept := planes.fontLaw law
  rw [State.finishEngineReset_eq]
  generalize allHandles.foldl State.resetPlane s = t at kept
  exact kept.congr (fun _ => rfl) rfl

theorem State.stopAtBoundary_fontLaw (law : FontLaw s) (j : Job) : FontLaw (s.stopAtBoundary j) := by
  unfold State.stopAtBoundary
  split
  · exact (((EngineOnly.stopHead s j).trans (.examine _)).fontLaw law).congr (fun _ => rfl) rfl
  · exact ((EngineOnly.stopHead s j).fontLaw law).congr (fun _ => rfl) rfl
  · exact State.finishEngineReset_fontLaw ((EngineOnly.stopHeadForReset s j).fontLaw law)
  · exact law

theorem State.afterRow_fontLaw {goesOn : State} (law : FontLaw s) (j : Job) (height : Nat) (st : Status)
    (h : FontLaw goesOn) : FontLaw (s.afterRow j height st goesOn) := by
  unfold State.afterRow
  split
  · exact State.stopAtBoundary_fontLaw law j
  · split
    · exact ((EngineOnly.endHead s j st).trans (.examine _)).fontLaw law
    · exact h

theorem RowDrawn.fontLaw {goesOn : State} {height : Nat} (h : RowDrawn s j t height goesOn) (law : FontLaw s) :
    FontLaw t ∧ FontLaw goesOn := by
  cases h with
  | fill | block | text => exact ⟨law.congr (fun _ => rfl) rfl, law.congr (fun _ => rfl) rfl⟩
  | load =>
    refine ⟨law.congr (fun _ => rfl) rfl, ?_⟩
    unfold State.loadProceed
    split
    · exact law.congr (fun _ => rfl) rfl
    · exact law.congr (fun _ => rfl) rfl

theorem Act.fontLaw (act : Act s u) (law : FontLaw s) : FontLaw u := by
  have engine {t : State} (only : EngineOnly s t) : FontLaw t := only.fontLaw law
  have same {t : State} (fonts : t.fonts = s.fonts) (glyphs : t.glyphs = s.glyphs) : FontLaw t :=
    law.congr (fun i => by unfold State.font; rw [fonts]) glyphs
  cases act with
  | idle => exact law
  | work | patterns | fullReset => exact same rfl rfl
  | blank _ hb => exact hb.fontLaw
  | planeMade => exact same (State.setPlane_fonts ..) (State.setPlane_glyphs ..)
  | planeRetired => exact same (State.setPlane_fonts ..) (State.setPlane_glyphs ..)
  | fillEnded k v hw =>
    refine (EngineOnly.retryPack _).fontLaw ?_
    exact same rfl rfl
  | planeFreed h => exact engine (.releasePlane s h)
  | fontMade id blocks lineHeight fallback first left hid hb hf ha =>
    have ⟨count, ordered, glyph, font⟩ := law
    have none : ∀ g ∈ s.glyphs, ¬ g.font = id := fun g hg e => hf (e ▸ (glyph g hg).2.1)
    refine FontLaw.setFont (s := { s with freeList := left }) (law.congr (fun _ => rfl) rfl) hid
      (f := newFontRecord first blocks lineHeight fallback) (glyphs := s.glyphs) count ordered
      (fun g hg => .inr ⟨hg, none g hg⟩) nofun (Nat.zero_le _) ?_ fun _ _ => rfl
    rw [List.filter_eq_nil_iff.mpr fun g hg => by simpa using none g hg]
    rfl
  | glyphAppended g bitmap hid hd ho hl hr hc => exact law.appendGlyph hid hd ho hl hr hc
  | fontDropped id hid => exact law.dropFont hid
  | submitted b report =>
    have accepted : FontLaw (s.accept b report) := by
      rw [s.accept_frame]
      exact same rfl rfl
    split
    · exact (EngineOnly.examine _).fontLaw accepted
    · exact accepted
  | waitingRemoved n j => exact engine (.removeWaiting s j)
  | runningStopped n j => exact engine ((EngineOnly.stopHead s j).trans (.examine _))
  | flushed => exact engine (.depart s _ _ _)
  | flushStopped j => exact engine ((EngineOnly.depart s _ _ _).trans (.stopHead _ j))
  | flushWaits =>
    have left : FontLaw (s.flushWaiting false) := engine (.depart s _ _ _)
    exact left.congr (fun _ => rfl) rfl
  | staged j bytes =>
    have staged : FontLaw (s.stage bytes) := same rfl rfl
    unfold State.afterStaging
    repeat' split
    all_goals exact staged.congr (fun _ => rfl) rfl
  | rowEnded j rest t goesOn height st hj ha hd =>
    obtain ⟨drawn, goes⟩ := hd.fontLaw law
    exact State.afterRow_fontLaw drawn _ _ _ goes
  | timedOut j => exact engine ((EngineOnly.endHead s j _).trans (.examine _))
  | extentMoved j rest x b hj hp hl hm =>
    have moved : FontLaw ((s.moveExtent x b).setHead j.nextRow) := (law.moveExtent hm).congr (fun _ => rfl) rfl
    unfold State.extentMoved
    dsimp only
    split
    · exact State.stopAtBoundary_fontLaw moved _
    · split
      · exact ((EngineOnly.packProceed _ _).trans (.examine _)).fontLaw moved
      · exact (EngineOnly.packProceed _ _).fontLaw moved
  | engineReset =>
    have flushed : FontLaw (s.flushWaiting true) := engine (.depart s _ _ _)
    unfold State.beginEngineReset
    dsimp only
    split
    · exact State.finishEngineReset_fontLaw flushed
    · next j _ _ =>
      split
      · exact State.finishEngineReset_fontLaw ((EngineOnly.stopHeadForReset _ j).fontLaw flushed)
      · exact flushed.congr (fun _ => rfl) rfl
  | queryClaimed =>
    refine (PortsOnly.arbitrate _).engine.fontLaw ?_
    exact same rfl rfl
  | queried q id =>
    refine (PortsOnly.giveBack _).engine.fontLaw ?_
    rw [s.queryResult_frame]
    exact same rfl rfl
  | portReleased p =>
    refine (PortsOnly.setPort _ p _).engine.fontLaw ?_
    rw [State.unbind_eq]
    exact engine (.setPlane s _ _)
  | faultCleared p | transaction p => exact engine (PortsOnly.setPort s p _).engine
  | updated p set mark order | aborted p set mark order => exact engine (.portThenStreaming s p _ order)
  | lineRose p => exact same (State.setBusyLine_fonts ..) (State.setBusyLine_glyphs ..)
  | lineFell p =>
    refine (EngineOnly.lineFallen _ p).fontLaw ?_
    exact same (State.setBusyLine_fonts ..) (State.setBusyLine_glyphs ..)
  | busyExpired p => exact engine (.busyExpired s p)
  | holdOffExpired p => exact engine ((PortsOnly.setPort s p _).trans (.holdOffExpired _ p)).engine

/-! ## The staging buffer -/

/-- The staged bytes go with the feeding LOAD, or it stays. -/
theorem StagingLaw.left (h : StagingLaw s) {gone kept : List Job}
    (cover : ∀ f ∈ s.jobs, f ∈ kept ∨ ∃ g ∈ gone, g.number = f.number) (jobs : t.jobs = kept)
    (staging : t.staging = stagingAfter s gone) : StagingLaw t := by
  obtain ⟨most, none⟩ := h
  unfold StagingLaw State.feeding
  rw [jobs, staging, stagingAfter_eq]
  cases hf : s.feeding with
  | none => exact ⟨most, fun _ => none hf⟩
  | some f =>
    dsimp only
    split
    · exact ⟨Nat.zero_le _, fun _ => rfl⟩
    · next stays =>
      refine ⟨most, fun no => ?_⟩
      have kept := (cover f (List.mem_of_find?_eq_some hf)).resolve_right stays
      exact absurd (List.find?_some hf) (List.find?_eq_none.mp no f kept)

theorem StagingLaw.core (h : StagingLaw s) (k : SameCore s t) : StagingLaw t := h.congr k.jobs k.staging

theorem StagingLaw.headGone (h : StagingLaw s) (byReset : Bool) : StagingLaw (s.headGone byReset) := by
  refine h.left (gone := s.jobs.take 1) (kept := s.jobs.tail) (fun f hf => ?_) rfl rfl
  cases hj : s.jobs with
  | nil =>
    rw [hj] at hf
    cases hf
  | cons j rest =>
    rw [hj] at hf
    obtain rfl | hf := List.mem_cons.mp hf
    · exact .inr ⟨f, List.mem_singleton_self f, rfl⟩
    · exact .inl hf

theorem StagingLaw.endHead (h : StagingLaw s) (j : Job) (st : Status) : StagingLaw (s.endHead j st) := by
  refine ((h.headGone false).core (s.freed_headGone j.rowsDone)).congr ?_ ?_ <;> unfold State.endHead State.notifyEnd <;>
    split <;> rfl

theorem StagingLaw.windUpPack (h : StagingLaw s) : StagingLaw s.windUpPack := by
  have released : StagingLaw s.releaseDuePlanes := by
    rw [TableOnly.releaseDuePlanes s]
    exact h.congr rfl rfl
  exact released.core (State.releaseLayoutLock_core _)

theorem StagingLaw.stopHead (h : StagingLaw s) (j : Job) : StagingLaw (s.stopHead j) := by
  have wound : StagingLaw (if j.body = .pack then s.windUpPack else s) := by
    split
    · exact h.windUpPack
    · exact h
  exact (wound.headGone false).core (State.freed_headGone _ j.rowsDone)

theorem StagingLaw.stopHeadForReset (h : StagingLaw s) (j : Job) : StagingLaw (s.stopHeadForReset j) :=
  ((h.core (PortsOnly.recordRows s j.rowsDone).sameCore).headGone true).congr rfl rfl

theorem StagingLaw.packProceed (h : StagingLaw s) (j : Job) : StagingLaw (s.packProceed j).1 := by
  unfold State.packProceed
  split
  · exact h
  · exact h.windUpPack.endHead j .ok

theorem StagingLaw.packTryLock (h : StagingLaw s) (j : Job) : StagingLaw (s.packTryLock j).1 := by
  unfold State.packTryLock
  split
  · exact StagingLaw.packProceed (s := { s with layoutLock := true }) (h.congr rfl rfl) j
  · exact h

theorem StagingLaw.restate (h : StagingLaw s) (hj : s.jobs = j :: rest) {j' : Job} (load : j'.isLoad = j.isLoad) :
    StagingLaw (s.setHead j') := by
  refine h.setHead (j' := j') (rest := rest) hj ?_ load rfl
  show j' :: s.jobs.tail = _
  rw [hj]
  rfl

theorem StagingLaw.activateOrHold (h : StagingLaw s) (hj : s.jobs = j :: rest) (plane : Nat) (r : Rect) (f : Fixed) :
    StagingLaw (s.activateOrHold j plane r f) := by
  unfold State.activateOrHold
  split
  · exact h.restate hj rfl
  · exact StagingLaw.restate (s := { s with writeHold := some { plane := plane, rect := r } }) (h.congr rfl rfl) hj rfl

theorem StagingLaw.loadProceed (h : StagingLaw s) (hj : s.jobs = j :: rest) (n : Nat) : StagingLaw (s.loadProceed j n) := by
  unfold State.loadProceed
  split
  · exact StagingLaw.restate (s := { s with dataTimer := .running Config.dataTimeoutMs }) (h.congr rfl rfl) hj rfl
  · exact h

theorem StagingLaw.examineJob (h : StagingLaw s) (hj : s.jobs = j :: rest) : StagingLaw (s.examineJob j).1 := by
  unfold State.examineJob
  split
  · exact h.activateOrHold hj _ _ _
  · exact h.activateOrHold hj _ _ _
  · dsimp only [State.examineLoad]
    split
    · exact h.restate hj rfl
    · next d r _ _ _ _ _ =>
      have taken : StagingLaw (s.activate j d r nothingFixed) :=
        StagingLaw.restate (s := { s with writeHold := some { plane := d, rect := r } }) (h.congr rfl rfl) hj rfl
      refine taken.loadProceed (rest := rest) ?_ _
      show _ :: s.jobs.tail = _
      rw [hj]
      rfl
  · unfold State.examineText
    split
    · exact h.endHead _ _
    · dsimp only
      split
      · exact h.endHead _ _
      · exact h.activateOrHold hj _ _ _
  · next p force _ => exact (h.core (PortsOnly.showPort s p force).sameCore).endHead _ _
  · exact (h.restate hj (j' := { j with state := .active }) rfl).packTryLock _
  · exact h.endHead _ _

theorem StagingLaw.examine (h : StagingLaw s) : StagingLaw s.examine :=
  State.examine_settles (P := StagingLaw) (Q := StagingLaw) (fun k _ => k) (fun k _ _ => k)
    (fun k hj _ _ => k.examineJob hj) (fun k hj _ _ => k.examineJob hj) h

theorem StagingLaw.retryPack (h : StagingLaw s) : StagingLaw s.retryPack := by
  unfold State.retryPack
  split
  · exact h
  · split
    · dsimp only
      split
      · exact (h.packTryLock _).examine
      · exact h.packTryLock _
    · exact h

theorem StagingLaw.recheckHead (h : StagingLaw s) : StagingLaw s.recheckHead := by
  unfold State.recheckHead
  split
  · exact h.retryPack
  · exact h.examine

theorem StagingLaw.finishEngineReset (s : State) : StagingLaw s.finishEngineReset := ⟨Nat.zero_le _, fun _ => rfl⟩

theorem StagingLaw.stopAtBoundary (h : StagingLaw s) (j : Job) : StagingLaw (s.stopAtBoundary j) := by
  unfold State.stopAtBoundary
  split
  · exact (h.stopHead j).examine.congr rfl rfl
  · exact (h.stopHead j).congr rfl rfl
  · exact .finishEngineReset _
  · exact h

theorem StagingLaw.flushWaiting (h : StagingLaw s) (byReset : Bool) : StagingLaw (s.flushWaiting byReset) := by
  refine h.left (gone := s.flushedJobs) (kept := s.keptHead) (fun f hf => ?_) rfl rfl
  unfold State.flushedJobs
  cases hj : s.jobs with
  | nil =>
    rw [hj] at hf
    cases hf
  | cons j rest =>
    rw [hj] at hf
    rw [keptHead_cons hj]
    split
    · obtain rfl | hf := List.mem_cons.mp hf
      · exact .inl List.mem_cons_self
      · exact .inr ⟨f, hf, rfl⟩
    · exact .inr ⟨f, hf, rfl⟩

theorem StagingLaw.afterRow {goesOn : State} (h : StagingLaw s) (j : Job) (height : Nat) (st : Status)
    (k : StagingLaw goesOn) : StagingLaw (s.afterRow j height st goesOn) := by
  unfold State.afterRow
  split
  · exact h.stopAtBoundary j
  · split
    · exact (h.endHead j st).examine
    · exact k

theorem RowDrawn.stagingLaw {goesOn : State} {height : Nat} (h : RowDrawn s j t height goesOn) (hj : s.jobs = j :: rest)
    (law : StagingLaw s) : StagingLaw t ∧ StagingLaw goesOn := by
  have counted (v : State) (k : StagingLaw v) (hv : v.jobs = s.jobs) : StagingLaw (v.setHead j.nextRow) :=
    k.restate (hv.trans hj) rfl
  cases h with
  | fill d =>
    have drawn := counted (s.fillRow j d) (law.congr rfl rfl) rfl
    exact ⟨drawn, drawn⟩
  | block d =>
    have drawn := counted (s.blockRow j d) (law.congr rfl rfl) rfl
    exact ⟨drawn, drawn⟩
  | text i _ _ _ ink fn _ hold =>
    have drawn := counted (s.textRow j i hold.rect fn ink) (law.congr rfl rfl) rfl
    exact ⟨drawn, drawn⟩
  | load i r fn total got hb =>
    have some : ¬ s.feeding = none := by
      unfold State.feeding
      rw [hj, List.find?_cons_of_pos (by simp [Job.isLoad, hb])]
      nofun
    have taken : StagingLaw { s.loadRow j i r fn with staging := s.staging.drop (s.rowByteCount i r.w) } :=
      ⟨by
        have most := law.1
        show (s.staging.drop _).length ≤ 4096
        rw [List.length_drop]
        omega, fun none => absurd none some⟩
    have drawn := counted _ taken rfl
    refine ⟨drawn, StagingLaw.loadProceed (j := j.nextRow) (rest := rest) drawn ?_ _⟩
    show _ :: s.jobs.tail = _
    rw [hj]
    rfl

theorem StagingLaw.afterStaging (h : StagingLaw s) : StagingLaw s.afterStaging := by
  unfold State.afterStaging
  split
  · exact h
  · next j rest hj =>
    split
    · split
      · exact StagingLaw.restate (s := { s with dataTimer := .stopped }) (h.congr rfl rfl) hj rfl
      · exact h.congr rfl rfl
    · exact h
    · exact h
    · exact h

theorem Act.stagingLaw (act : Act s u) (law : StagingLaw s) : StagingLaw u := by
  have same {t : State} (core : SameCore s t) : StagingLaw t := law.core core
  have streamed {t : State} (k : StagingLaw t) (order : BoundaryOrder) : StagingLaw (t.afterStreaming order) := by
    cases order
    · exact k.recheckHead.core (PortsOnly.giveBack _).sameCore
    · exact (k.core (PortsOnly.giveBack t).sameCore).recheckHead
  cases act with
  | idle => exact law
  | work | patterns | fullReset | fontMade | glyphAppended | fontDropped => exact law.congr rfl rfl
  | blank _ hb => exact hb.stagingLaw
  | planeMade | planeFreed | planeRetired => exact law.congr (State.setPlane_jobs ..) (State.setPlane_staging ..)
  | fillEnded k v hw => exact StagingLaw.retryPack (law.congr rfl rfl)
  | submitted b report =>
    split
    · exact (law.accept report).examine
    · exact law.accept report
  | waitingRemoved n j =>
    have removed : StagingLaw (s.depart [j] (s.jobs.filter (fun i => !(i.number == j.number))) false) := by
      refine law.left (gone := [j]) (kept := s.jobs.filter (fun i => !(i.number == j.number))) (fun f hf => ?_) rfl rfl
      by_cases e : f.number = j.number
      · exact .inr ⟨j, List.mem_singleton_self j, e.symm⟩
      · exact .inl (List.mem_filter.mpr ⟨hf, by simpa using e⟩)
    unfold State.removeWaiting
    dsimp only
    split
    · exact removed.examine
    · exact removed
  | runningStopped n j => exact (law.stopHead j).examine
  | flushed => exact law.flushWaiting false
  | flushStopped j => exact (law.flushWaiting false).stopHead j
  | flushWaits => exact (law.flushWaiting false).congr rfl rfl
  | staged j bytes hj hb hs => exact (law.stage hj hs).afterStaging
  | rowEnded j rest t goesOn height st hj ha hd =>
    obtain ⟨drawn, goes⟩ := hd.stagingLaw hj law
    exact drawn.afterRow _ _ _ goes
  | timedOut j => exact (law.endHead j _).examine
  | extentMoved j rest x b hj =>
    have moved : StagingLaw (s.moveExtent x b) := by
      rw [s.moveExtent_frame]
      exact law.congr rfl rfl
    have counted : StagingLaw ((s.moveExtent x b).setHead j.nextRow) :=
      moved.restate (j := j) (rest := rest) (by rw [s.moveExtent_frame, ← hj]) rfl
    unfold State.extentMoved
    dsimp only
    split
    · exact counted.stopAtBoundary _
    · split
      · exact (counted.packProceed _).examine
      · exact counted.packProceed _
  | engineReset =>
    unfold State.beginEngineReset
    dsimp only
    split
    · exact .finishEngineReset _
    · split
      · exact .finishEngineReset _
      · exact (law.flushWaiting true).congr rfl rfl
  | queryClaimed q =>
    exact StagingLaw.core (s := s.occupy (.query q)) (law.congr rfl rfl) (PortsOnly.arbitrate _).sameCore
  | queried q id =>
    refine StagingLaw.core ?_ (PortsOnly.giveBack _).sameCore
    rw [s.queryResult_frame]
    exact law.congr rfl rfl
  | portReleased p =>
    refine StagingLaw.core ?_ (PortsOnly.setPort _ p _).sameCore
    rw [State.unbind_eq]
    exact law.congr (State.setPlane_jobs ..) (State.setPlane_staging ..)
  | faultCleared p | transaction p => exact same (PortsOnly.setPort s p _).sameCore
  | updated p set mark order | aborted p set mark order => exact streamed (same (PortsOnly.setPort s p _).sameCore) order
  | lineRose p => exact same (.setBusyLine s p true)
  | lineFell p => exact same ((SameCore.setBusyLine s p false).trans (.lineFallen _ p))
  | busyExpired p => exact same (.busyExpired s p)
  | holdOffExpired p => exact same ((PortsOnly.setPort s p _).trans (.holdOffExpired _ p)).sameCore

/-! ## The obligation -/

/-- Settles O55: each act writes cells at most, stages or drops bytes with the feeding LOAD, and keeps the fonts' records in
step with the glyph index; the LOADs' counts are among the laws of `Engine`. -/
theorem storedDataKeepsItsLaws : Obligations.StoredDataKeepsItsLaws := by
  unfold Obligations.StoredDataKeepsItsLaws
  intro s t h
  refine ⟨fun law => ?_, fun law => ?_, fun law => ?_, fun engine staging loads => ?_⟩
  · refine step_keeps (L := fun s => memoryWf s.mem) (fun same k => ?_) (fun _ k => k) Act.memoryWf h law
    rw [same.frame]
    exact k
  · exact step_keeps (L := StagingLaw) (fun same k => k.core same.sameCore) (fun _ k => k.congr rfl rfl) Act.stagingLaw h law
  · refine step_keeps (L := FontLaw) (fun same k => ?_) (fun _ k => k.congr (fun _ => rfl) rfl) Act.fontLaw h law
    rw [same.frame]
    exact k.congr (fun _ => rfl) rfl
  · have settled : Settled False True s := engineLaw_settled.mp ⟨engine, nofun, fun _ => ⟨staging, loads⟩⟩
    exact ((engineLaw_settled.mpr (settled.step h)).2.2 trivial).2

end Sys2Proof.Machine
end

section
/-! What a stop does in its order (O31), and what follows a release (O32). -/

namespace Sys2Proof.Machine

set_option Elab.async false

/-! ## The ports at a release -/

theorem State.wakeFrom_eq (s : State) (w : Wait) (p : Port) : s.wakeFrom w p = s.setPort p ((s.port p).claimsFrom w) := by
  unfold State.wakeFrom PortRec.waits PortRec.claimsFrom State.enterBusWait
  by_cases is : (s.port p).state = .pending w
  · rw [if_pos (decide_eq_true is), if_pos is]
  · rw [if_neg (by simpa using is), if_neg is]
    cases p <;> rfl

theorem State.wakePorts_eq (s : State) (w : Wait) :
    s.wakePorts w = State.arbitrate { s with portA := s.portA.claimsFrom w, portB := s.portB.claimsFrom w } := by
  unfold State.wakePorts
  rw [State.wakeFrom_eq, State.wakeFrom_eq]
  rfl

theorem State.damagedPort_free {s : State} (none : s.writeHold = none) (rows : Nat) (p : Port) :
    s.damagedPort rows p = s.port p := by
  unfold State.damagedPort
  rw [none]

theorem State.damagedPort_held {s : State} {w : Hold} (hold : s.writeHold = some w) (rows : Nat) (p : Port) :
    s.damagedPort rows p =
      if 0 < rows ∧ (s.plane w.plane).bound p = true then (s.port p).addPlaneDamage { w.rect with h := rows }
      else s.port p := by
  unfold State.damagedPort
  rw [hold]

theorem State.damagePort_eq (s : State) (h : Nat) (r : Rect) (p : Port) :
    s.damagePort h r p = s.setPort p (if (s.plane h).bound p = true then (s.port p).addPlaneDamage r else s.port p) := by
  unfold State.damagePort
  split
  · rfl
  · cases p <;> rfl

/-- The damage of a job's rows, at each port by itself. -/
theorem State.recordRows_eq (s : State) (rows : Nat) :
    s.recordRows rows = { s with portA := s.damagedPort rows .a, portB := s.damagedPort rows .b } := by
  unfold State.recordRows
  split
  · next none =>
    rw [State.damagedPort_free none, State.damagedPort_free none]
    rfl
  · next w hold =>
    rw [State.damagedPort_held hold, State.damagedPort_held hold]
    split
    · next zero =>
      rw [if_neg (by omega), if_neg (by omega)]
      rfl
    · next some =>
      simp only [Nat.pos_of_ne_zero some, true_and]
      unfold State.recordDamage
      rw [State.damagePort_eq, State.damagePort_eq]
      rfl

theorem State.releaseWriteHold_free {s : State} (none : s.writeHold = none) : s.releaseWriteHold = s := by
  unfold State.releaseWriteHold
  rw [none]

theorem State.releaseWriteHold_held {s : State} {w : Hold} (hold : s.writeHold = some w) :
    s.releaseWriteHold = State.wakePorts { s with writeHold := none } .hold := by
  unfold State.releaseWriteHold
  rw [hold]

theorem State.holdFreed_free {s : State} (none : s.writeHold = none) (rows : Nat) : s.holdFreed rows = s := by
  unfold State.holdFreed
  rw [none]

theorem State.holdFreed_held {s : State} {w : Hold} (hold : s.writeHold = some w) (rows : Nat) :
    s.holdFreed rows =
      State.arbitrate
        { s with
          portA := (s.damagedPort rows .a).claimsFrom .hold
          portB := (s.damagedPort rows .b).claimsFrom .hold
          writeHold := none } := by
  unfold State.holdFreed
  rw [hold]

theorem State.freed (s : State) (rows : Nat) : (s.recordRows rows).releaseWriteHold = s.holdFreed rows := by
  have same : (s.recordRows rows).writeHold = s.writeHold := by rw [s.recordRows_eq]
  obtain free | ⟨w, hold⟩ := Option.eq_none_or_eq_some s.writeHold
  · rw [State.holdFreed_free free, State.releaseWriteHold_free (same.trans free), s.recordRows_eq,
      State.damagedPort_free free, State.damagedPort_free free]
    rfl
  · rw [State.holdFreed_held hold, State.releaseWriteHold_held (same.trans hold), State.wakePorts_eq, s.recordRows_eq]

theorem State.holdFreed_jobs (s : State) (rows : Nat) : (s.holdFreed rows).jobs = s.jobs := by
  rw [← s.freed]
  exact (s.freed_core rows).jobs

/-! ## Stops -/

/-- The head departs once its hold is freed. -/
theorem State.departHead_freed {s : State} {j : Job} {rest : List Job} (hj : s.jobs = j :: rest) (rows : Nat) :
    (s.recordRows rows).releaseWriteHold.departHead false = (s.holdFreed rows).depart [j] rest false := by
  unfold State.departHead
  rw [s.freed, State.holdFreed_jobs, hj]
  rfl

theorem State.releaseLayoutLock_planes (s : State) : s.releaseLayoutLock.planes = s.planes := by
  unfold State.releaseLayoutLock
  split
  · exact (PortsOnly.wakePorts _ _).keeps.2.1
  · rfl

/-- What PACK's giving up of the lock it holds does. -/
theorem State.releaseLayoutLock_held {s : State} (locked : s.layoutLock = true) :
    s.releaseLayoutLock = State.arbitrate
      { s with layoutLock := false, portA := s.portA.claimsFrom .lock, portB := s.portB.claimsFrom .lock } := by
  unfold State.releaseLayoutLock
  rw [if_pos locked, State.wakePorts_eq]

/-- Settles O31: the winding up is the release of the planes due and then of the lock, and the rest is the departure of the
head from a part whose hold is freed. -/
theorem stopDoesItsPartsInOrder : Obligations.StopDoesItsPartsInOrder := by
  unfold Obligations.StopDoesItsPartsInOrder
  intro s j rest hj
  have released := s.releaseDuePlanes_released
  have plane (h : Nat) : s.windUpPack.plane h = s.releaseDuePlanes.plane h := (State.releaseLayoutLock_core _).plane h
  have due : s.releaseDuePlanes = { s with
      planes := s.releaseDuePlanes.planes
      freeList := (allHandles.filter (fun h => (s.plane h).releaseDue)).foldl (fun l h => releaseExtent l (s.plane h).extent) s.freeList
      notices := (allHandles.filter (fun h => (s.plane h).releaseDue)).foldl (fun u h => u.push (.planeReleased h)) s.notices } := by
    rw [← released.freeList, ← released.notices]
    exact released.table
  have lock : s.releaseDuePlanes.layoutLock = s.layoutLock := released.table.keeps.2
  have ports : s.releaseDuePlanes.portA = s.portA ∧ s.releaseDuePlanes.portB = s.portB := by
    rw [due]
    exact ⟨rfl, rfl⟩
  refine ⟨fun h low high => ?_, fun free => ?_, fun locked => ?_, ?_, ?_⟩
  · rw [plane, released.plane]
    exact if_congr (by simp [mem_allHandles, low, high]) rfl rfl
  · have same : s.windUpPack = s.releaseDuePlanes := by
      unfold State.windUpPack State.releaseLayoutLock
      rw [lock, free]
      rfl
    rw [same]
    exact due
  · have planes : s.windUpPack.planes = s.releaseDuePlanes.planes := State.releaseLayoutLock_planes _
    rw [planes]
    refine (State.releaseLayoutLock_held (lock.trans locked)).trans ?_
    rw [ports.1, ports.2]
    conv_lhs => rw [due]
  · unfold State.stopHead
    dsimp only
    rw [State.departHead_freed]
    split
    · exact s.windUpPack_jobs.trans hj
    · exact hj
  · unfold State.stopHeadForReset State.departHead
    rw [s.recordRows_eq]
    dsimp only
    rw [hj]
    rfl

/-! ## Releases -/

section Head

variable {s : State} {j : Job} {rest : List Job} (hj : s.jobs = j :: rest)
include hj

theorem State.packActive_head : s.packActive = true ↔ j.body = .pack ∧ j.state = .active := by
  unfold State.packActive
  rw [hj]
  simp

theorem State.retryPack_other (other : ¬ (j.body = .pack ∧ j.state = .active)) : s.retryPack = s := by
  unfold State.retryPack
  rw [hj]
  dsimp only
  rw [if_neg fun active => other ((State.packActive_head hj).mp active)]

theorem State.recheckHead_other (other : ¬ (j.body = .pack ∧ j.state = .active)) : s.recheckHead = s.examine := by
  unfold State.recheckHead
  rw [if_neg fun active => other ((State.packActive_head hj).mp active)]

/-- A PACK at the head looks at the layout lock again. -/
theorem State.retryPack_pack (pack : j.body = .pack) (active : j.state = .active) :
    s.retryPack = if (s.packTryLock j).2 = true then (s.packTryLock j).1.examine else (s.packTryLock j).1 := by
  unfold State.retryPack
  rw [hj]
  dsimp only
  rw [if_pos ((State.packActive_head hj).mpr ⟨pack, active⟩)]

end Head

/-- Settles O32: each operation at a release opened once, by what stands at the head and by what the layout lock finds. -/
theorem releasesAreActedOn : Obligations.ReleasesAreActedOn := by
  unfold Obligations.ReleasesAreActedOn
  intro s
  refine ⟨fun w => s.wakePorts_eq w, ?_, rfl, fun empty => ?_, fun j rest hj => ⟨fun waits => ?_, fun runs other => ?_,
    fun pack active => ⟨?_, fun busy => ?_, fun free ⟨m, hm⟩ => ?_, fun free none => ?_⟩⟩⟩
  · unfold State.releaseWriteHold
    cases s.writeHold <;> rfl
  · have idle : s.packActive = false := by
      unfold State.packActive
      rw [empty]
    constructor
    · unfold State.recheckHead State.examine
      rw [idle, empty]
      rfl
    · unfold State.retryPack
      rw [empty]
  · have other : ¬ (j.body = .pack ∧ j.state = .active) := by
      rintro ⟨-, active⟩
      rcases waits with is | is <;> exact JobState.noConfusion (is.symm.trans active)
    exact ⟨State.recheckHead_other hj other, State.retryPack_other hj other⟩
  · have run : j.running = true := by rcases runs with is | is <;> simp [Job.running, is]
    exact ⟨(State.recheckHead_other hj other).trans (State.examine_running hj run), State.retryPack_other hj other⟩
  · unfold State.recheckHead
    rw [if_pos ((State.packActive_head hj).mpr ⟨pack, active⟩)]
  · rw [State.retryPack_pack hj pack active]
    unfold State.packTryLock
    rw [if_neg busy]
    rfl
  · rw [State.retryPack_pack hj pack active]
    unfold State.packTryLock State.packProceed
    have some : State.nextMove { s with layoutLock := true } = some m := hm
    rw [if_pos free, some]
    rfl
  · rw [State.retryPack_pack hj pack active]
    unfold State.packTryLock State.packProceed
    have none : State.nextMove { s with layoutLock := true } = .none := none
    rw [if_pos free, none]
    rfl

end Sys2Proof.Machine
end

section
/-! The examination of the head, kind by kind (O26, O27, O28). -/

namespace Sys2Proof.Machine

set_option Elab.async false

/-! ## What an examination rests on -/

theorem State.readHeld_iff {s : State} {h : Nat} {r : Rect} :
    s.readHeld h r = true ↔ ∃ p, (s.port p).boundPlane = h ∧ ∃ u ∈ (s.port p).readHolds, overlaps r u = true := by
  have one (q : PortRec) : q.holdsAgainst h r = true ↔ q.boundPlane = h ∧ ∃ u ∈ q.readHolds, overlaps r u = true := by
    simp [PortRec.holdsAgainst]
  unfold State.readHeld
  rw [Bool.or_eq_true, one, one]
  refine ⟨?_, fun ⟨p, held⟩ => ?_⟩
  · rintro (held | held)
    · exact ⟨.a, held⟩
    · exact ⟨.b, held⟩
  · cases p
    · exact .inl held
    · exact .inr held

theorem State.patternCopy_eq (s : State) (d : DrawFields) :
    s.patternCopy d = if d.source = .pattern ∨ d.source = .planeAndPattern then some (s.patternEntry d.pattern) else none := by
  unfold State.patternCopy
  cases d.source <;> simp

/-- The source values of a BLOCK, one by one. -/
theorem State.sourceRows_getD (s : State) (src sx sy : Nat) {w h i k : Nat} (hi : i < w) (hk : k < h) :
    ((s.sourceRows src sx sy w h).getD k []).getD i 0 = s.pixel src (sx + i) (sy + k) := by
  simp [State.sourceRows, hi, hk]

theorem PortRec.damagePresent_eq_false {r : PortRec} : r.damagePresent = false ↔ r.damage = [] ∧ r.whole = false := by
  unfold PortRec.damagePresent
  rw [Bool.or_eq_false_iff, Bool.not_eq_false', List.isEmpty_iff, and_comm]

section Examination

variable {s t : State} {j : Job} {rest : List Job}

theorem Job.still_of_waits (waits : j.state = .queued ∨ j.state = .held) : j.running = false := by
  rcases waits with is | is <;> simp [Job.running, is]

variable (hj : s.jobs = j :: rest) (waits : j.state = .queued ∨ j.state = .held)
include hj

theorem State.setHead_eq (j' : Job) : s.setHead j' = { s with jobs := j' :: rest } := by
  unfold State.setHead
  rw [hj]
  rfl

theorem State.hold_eq : s.hold j = { s with jobs := { j with state := .held, fixed := nothingFixed } :: rest } :=
  State.setHead_eq hj _

theorem State.activate_eq (h : Nat) (r : Rect) (f : Fixed) :
    s.activate j h r f =
      { s with writeHold := some { plane := h, rect := r }, jobs := { j with state := .active, fixed := f } :: rest } :=
  State.setHead_eq (s := { s with writeHold := some { plane := h, rect := r } }) hj _

include waits

theorem State.examine_stays (he : s.examineJob j = (t, false)) : s.examine = t := by
  rw [State.examine_cons hj (Job.still_of_waits waits), he]
  rfl

theorem State.examine_ends (he : s.examineJob j = (t, true)) : s.examine = t.examine := by
  rw [State.examine_cons hj (Job.still_of_waits waits), he]
  rfl

/-- The examination of a job that compares its rectangle with the read holds. -/
theorem State.examine_drawn {h : Nat} {r : Rect} {f : Fixed} (he : s.examineJob j = (s.activateOrHold j h r f, false)) :
    (s.readHeld h r = true → s.examine = { s with jobs := { j with state := .held, fixed := nothingFixed } :: rest }) ∧
      (¬ s.readHeld h r = true → s.examine =
        { s with writeHold := some { plane := h, rect := r }, jobs := { j with state := .active, fixed := f } :: rest }) := by
  rw [State.examine_stays hj waits he]
  unfold State.activateOrHold
  refine ⟨fun met => ?_, fun apart => ?_⟩
  · rw [if_pos met]
    exact State.hold_eq hj
  · rw [if_neg apart]
    exact State.activate_eq hj h r f

end Examination

/-- Settles O26: a drawing job by the comparison of its rectangle with the read holds, a LOAD by what is staged too, and a
MARK by its end. -/
theorem headIsExamined : Obligations.HeadIsExamined := by
  unfold Obligations.HeadIsExamined
  intro s j rest hj waits
  refine ⟨fun d hb => ?_, fun d src sx sy hb => ?_, fun h r fn total got hb => ?_, fun label hb => ?_⟩
  · have he : s.examineJob j = (s.activateOrHold j d.dest d.rect { nothingFixed with pattern := s.patternCopy d }, false) := by
      unfold State.examineJob
      rw [hb]
    rw [s.patternCopy_eq] at he
    dsimp only
    rw [← State.readHeld_iff]
    exact State.examine_drawn hj waits he
  · have he : s.examineJob j = (s.activateOrHold j d.dest d.rect
        { nothingFixed with
          pattern := s.patternCopy d
          source := s.sourceRows src sx sy d.rect.w d.rect.h }, false) := by
      unfold State.examineJob
      rw [hb]
    rw [s.patternCopy_eq] at he
    dsimp only
    rw [← State.readHeld_iff]
    obtain ⟨held, active⟩ := State.examine_drawn hj waits he
    exact ⟨held, fun apart => ⟨_, active apart, fun i k hi hk => s.sourceRows_getD src sx sy hi hk⟩⟩
  · have he : s.examineJob j = (s.examineLoad j h r, false) := by
      unfold State.examineJob
      rw [hb]
    dsimp only
    rw [← State.readHeld_iff, State.examine_stays hj waits he]
    unfold State.examineLoad
    refine ⟨fun met => ?_, fun apart => ?_⟩
    · rw [if_pos met]
      exact State.hold_eq hj
    · rw [if_neg apart, State.activate_eq hj]
      rfl
  · refine State.examine_ends hj waits ?_
    unfold State.examineJob
    rw [hb]

/-- Settles O28: a SHOW by the state of its port, and a PACK by what the layout lock and the extents left allow. -/
theorem showAndPackAreExamined : Obligations.ShowAndPackAreExamined := by
  unfold Obligations.ShowAndPackAreExamined
  intro s j rest hj waits
  refine ⟨fun p force hb => ?_, fun hb rows => ?_⟩
  · have ends {t : State} {st : Status} (shown : s.showPort p force = (t, st)) : s.examine = (t.endHead j st).examine := by
      refine State.examine_ends hj waits ?_
      unfold State.examineJob
      rw [hb]
      dsimp only
      rw [shown]
    unfold State.showPort at ends
    dsimp only at ends ⊢
    cases hs : (s.port p).state with
    | idle =>
      rw [hs] at ends
      dsimp only at ends ⊢
      have quiet : ((s.port p).damagePresent = false ∧ (s.port p).force = false ∧ force = false) ↔
          (s.port p).damage = [] ∧ (s.port p).whole = false ∧ (s.port p).force = false ∧ force = false := by
        rw [PortRec.damagePresent_eq_false, and_assoc]
      split
      · next is => exact ends (if_pos (quiet.mpr is))
      · next asked => exact ends (if_neg fun is => asked (quiet.mp is))
    | unconfigured | pending | streaming | settling | fault =>
      rw [hs] at ends
      exact ends rfl
  · have started : { j with state := .active, rowsDone := 0 } = { j with state := JobState.active } := by rw [← rows]
    have he : s.examineJob j = State.packTryLock { s with jobs := { j with state := .active } :: rest } { j with state := .active } := by
      unfold State.examineJob
      rw [hb]
      dsimp only
      rw [State.setHead_eq hj]
    dsimp only
    rw [started]
    refine ⟨fun busy => State.examine_stays hj waits (he.trans (if_neg busy)), fun free ⟨m, hm⟩ => ?_, fun free none => ?_⟩
    · refine State.examine_stays hj waits ((he.trans (if_pos free)).trans ?_)
      unfold State.packProceed
      have some : State.nextMove { s with jobs := { j with state := .active } :: rest, layoutLock := true } = some m := hm
      rw [some]
    · refine State.examine_ends hj waits ((he.trans (if_pos free)).trans ?_)
      unfold State.packProceed
      have none : State.nextMove { s with jobs := { j with state := .active } :: rest, layoutLock := true } = .none := none
      rw [none]

/-! ## The codes of a TEXT -/

section Codes

variable (index : List Glyph) (font fallback : Nat) (baseline : Int)

theorem placeCodes_missing {code : Nat} (hr : resolveCode index font fallback code = none) (pen : Int) (rest : List Nat) :
    placeCodes index font fallback baseline pen (code :: rest) =
      ((placeCodes index font fallback baseline pen rest).1, (placeCodes index font fallback baseline pen rest).2 + 1) := by
  rw [placeCodes, hr]

theorem placeCodes_found {code : Nat} {g : Glyph} (hr : resolveCode index font fallback code = some g) (pen : Int)
    (rest : List Nat) :
    placeCodes index font fallback baseline pen (code :: rest) =
      ({ left := pen + g.xOffset, top := baseline + g.yOffset, glyph := g } ::
          (placeCodes index font fallback baseline (pen + g.advance) rest).1,
        (placeCodes index font fallback baseline (pen + g.advance) rest).2) := by
  rw [placeCodes, hr]

theorem resolveCode_eq (code : Nat) :
    resolveCode index font fallback code = (findGlyph index font code).or (findGlyph index font fallback) := by
  unfold resolveCode
  cases findGlyph index font code <;> rfl

theorem placeCodes_count (pen : Int) (codes : List Nat) :
    (placeCodes index font fallback baseline pen codes).1.length +
      (placeCodes index font fallback baseline pen codes).2 = codes.length := by
  induction codes generalizing pen with
  | nil => rfl
  | cons code rest ih =>
    cases hr : resolveCode index font fallback code with
    | none =>
      rw [placeCodes_missing index font fallback baseline hr, List.length_cons, ← ih pen, ← Nat.add_assoc]
    | some g =>
      rw [placeCodes_found index font fallback baseline hr, List.length_cons, List.length_cons, ← ih (pen + g.advance)]
      omega

theorem placeCodes_glyphs (pen : Int) (codes : List Nat) :
    (placeCodes index font fallback baseline pen codes).1.map (·.glyph) =
      codes.filterMap (resolveCode index font fallback) := by
  induction codes generalizing pen with
  | nil => rfl
  | cons code rest ih =>
    cases hr : resolveCode index font fallback code with
    | none =>
      rw [placeCodes_missing index font fallback baseline hr, List.filterMap_cons_none hr]
      exact ih pen
    | some g =>
      rw [placeCodes_found index font fallback baseline hr, List.filterMap_cons_some hr, List.map_cons, ih]

theorem placeCodes_top (pen : Int) (codes : List Nat) :
    ∀ g ∈ (placeCodes index font fallback baseline pen codes).1, g.top = baseline + g.glyph.yOffset := by
  induction codes generalizing pen with
  | nil => nofun
  | cons code rest ih =>
    cases hr : resolveCode index font fallback code with
    | none =>
      rw [placeCodes_missing index font fallback baseline hr]
      exact ih pen
    | some g =>
      rw [placeCodes_found index font fallback baseline hr]
      exact List.forall_mem_cons.mpr ⟨rfl, ih _⟩

/-- The first glyph stands at the pen. -/
theorem placeCodes_first (pen : Int) (codes : List Nat) :
    ∀ g more, (placeCodes index font fallback baseline pen codes).1 = g :: more → g.left = pen + g.glyph.xOffset := by
  induction codes generalizing pen with
  | nil => nofun
  | cons code rest ih =>
    cases hr : resolveCode index font fallback code with
    | none =>
      rw [placeCodes_missing index font fallback baseline hr]
      exact ih pen
    | some g =>
      rw [placeCodes_found index font fallback baseline hr]
      rintro g' more e
      obtain ⟨rfl, -⟩ := List.cons.inj e
      rfl

/-- Every other glyph stands at the pen that the one before it has advanced. -/
theorem placeCodes_next (pen : Int) (codes : List Nat) :
    ∀ (front : List PlacedGlyph) (f g : PlacedGlyph) (back : List PlacedGlyph),
      (placeCodes index font fallback baseline pen codes).1 = front ++ f :: g :: back →
      g.left - g.glyph.xOffset = f.left - f.glyph.xOffset + f.glyph.advance := by
  induction codes generalizing pen with
  | nil =>
    intro front f g back e
    exact absurd e.symm (List.append_ne_nil_of_right_ne_nil _ nofun)
  | cons code rest ih =>
    cases hr : resolveCode index font fallback code with
    | none =>
      rw [placeCodes_missing index font fallback baseline hr]
      exact ih pen
    | some first =>
      rw [placeCodes_found index font fallback baseline hr]
      intro front f g back e
      cases front with
      | nil =>
        obtain ⟨rfl, more⟩ := List.cons.inj e
        have left := placeCodes_first index font fallback baseline _ _ g back more
        dsimp only
        omega
      | cons x front => exact ih _ front f g back (List.cons.inj e).2

end Codes

/-- Settles O27: the codes by induction over them, and the three outcomes by the font and by the rectangle of the boxes. -/
theorem textHeadIsResolved : Obligations.TextHeadIsResolved := by
  unfold Obligations.TextHeadIsResolved
  intro s j rest h font pen base ink fn codes hj waits hb
  have he : s.examineJob j = s.examineText j h font pen base codes := by
    unfold State.examineJob
    rw [hb]
  unfold State.examineText at he
  refine ⟨fun undefined => ?_, fun defined => ?_⟩
  · rw [if_pos undefined] at he
    exact State.examine_ends hj waits he
  · rw [if_neg (by rw [defined]; exact nofun)] at he
    refine ⟨(placeCodes s.glyphs font (s.font font).fallback base pen codes).1,
      (placeCodes s.glyphs font (s.font font).fallback base pen codes).2, placeCodes_count .., ?_, placeCodes_top _ _ _ _ _ _,
      placeCodes_first _ _ _ _ _ _, placeCodes_next _ _ _ _ _ _, ?_⟩
    · rw [placeCodes_glyphs]
      exact List.filterMap_congr fun c _ => resolveCode_eq ..
    · dsimp only at he ⊢
      unfold textRect at he
      split
      · next none =>
        rw [none] at he
        exact State.examine_ends hj waits he
      · next r some =>
        rw [some] at he
        obtain ⟨held, active⟩ := State.examine_drawn hj waits he
        split
        · next met => exact held met
        · next apart => exact active apart

end Sys2Proof.Machine
end

section
/-! What the end of a job does, in its order (O29). -/

namespace Sys2Proof.Machine

set_option Elab.async false

/-! ## The hold freed -/

/-- The arbiter leaves a bus that is owned, and one that nothing claims. -/
theorem State.arbitrate_quiet {s : State} (quiet : s.bus.owner = .none → s.chosen = .none) : s.arbitrate = s := by
  by_cases free : s.bus.owner = .none
  · unfold State.arbitrate arbitrateFor
    rw [free]
    dsimp only
    rw [quiet free]
  · exact State.arbitrate_owned free

theorem State.chosen_quiet {s : State} (query : s.queryWaits = false) (claims : ∀ p, s.claims p = false) :
    s.chosen = .none := by
  unfold State.chosen
  rw [query, claims, claims]
  rfl

theorem State.damagedPort_state (s : State) (rows : Nat) (p : Port) : (s.damagedPort rows p).state = (s.port p).state := by
  unfold State.damagedPort
  split
  · rfl
  · split
    · exact (PortRec.addPlaneDamage_state _ _).1
    · rfl

theorem PortRec.claimsFrom_other {r : PortRec} {w : Wait} (other : ¬ r.state = .pending w) : r.claimsFrom w = r := if_neg other

/-- What the freeing of a hold leaves alone. -/
theorem State.holdFreed_ports (s : State) (rows : Nat) :
    s.holdFreed rows = { s with
      portA := (s.holdFreed rows).portA, portB := (s.holdFreed rows).portB, bus := (s.holdFreed rows).bus
      writeHold := none } := by
  unfold State.holdFreed
  split
  · next free => rw [← free]
  · exact PortsOnly.arbitrate _

/-- With no port in the hold wait and the bus in its laws, the freeing of the hold grants nothing. -/
theorem State.holdFreed_quiet {s : State} (apart : ∀ p, ¬ (s.port p).state = .pending .hold) (bus : BusLaw s) (rows : Nat) :
    (s.holdFreed rows).bus = s.bus ∧ ∀ p, (s.holdFreed rows).port p = s.damagedPort rows p := by
  unfold State.holdFreed
  split
  · next free => exact ⟨rfl, fun p => (State.damagedPort_free free rows p).symm⟩
  · have still (p : Port) : (s.damagedPort rows p).claimsFrom .hold = s.damagedPort rows p :=
      PortRec.claimsFrom_other (by rw [s.damagedPort_state]; exact apart p)
    rw [still, still, State.arbitrate_quiet]
    · exact ⟨rfl, fun p => by cases p <;> rfl⟩
    · intro free
      obtain ⟨-, quiet⟩ := busLaw_iff.mp bus
      obtain ⟨query, claimA, claimB⟩ := quiet free
      have claims (p : Port) : s.claims p = false := by cases p; exacts [claimA, claimB]
      refine State.chosen_quiet query fun p => (Bool.eq_iff_iff.mpr ?_).trans (claims p)
      rw [State.claims_iff, State.claims_iff]
      have state : (State.port { s with
          portA := s.damagedPort rows .a, portB := s.damagedPort rows .b, writeHold := none } p).state = (s.port p).state := by
        cases p <;> exact s.damagedPort_state rows _
      rw [state]

/-! ## The departure of the head -/

theorem State.endHead_eq {s : State} {head : Job} {rest : List Job} (hj : s.jobs = head :: rest) (j : Job) (st : Status) :
    s.endHead j st =
      State.notifyEnd { (s.holdFreed j.rowsDone).depart [head] rest false with dataTimer := .stopped } j st := by
  unfold State.endHead
  dsimp only
  rw [State.departHead_freed hj]

theorem namedOnce (j : Job) (h : Nat) : ([j].filter (fun j => j.names h)).length = if j.names h = true then 1 else 0 := by
  rw [List.filter_singleton]
  cases j.names h <;> rfl

section Head

variable {s : State} {head : Job} {rest : List Job} (hj : s.jobs = head :: rest)
include hj

/-- A plane that the head names has a job that names it. -/
theorem PlaneLaw.named (planes : PlaneLaw s) {h : Nat} (low : 1 ≤ h) (high : h ≤ 24) (names : head.names h = true) :
    1 ≤ (s.plane h).refCount ∧ (s.plane h).releaseDue = false := by
  obtain ⟨-, count, due⟩ := planes.1 h low high
  have one : 1 ≤ (s.plane h).refCount := by
    rw [count]
    exact List.length_pos_of_mem (List.mem_filter.mpr ⟨hj ▸ List.mem_cons_self, names⟩)
  exact ⟨one, Bool.eq_false_iff.mpr fun is => by rw [(due is).2] at one; omega⟩

/-- The last reference of a RETIRING plane is the head's when its ref count is 1. -/
theorem State.lastGone_head (planes : PlaneLaw s) {h : Nat} (low : 1 ≤ h) (high : h ≤ 24) :
    s.lastGone [head] h =
      (decide ((s.plane h).state = .retiring) && decide ((s.plane h).refCount = 1) && head.names h) := by
  unfold State.lastGone
  rw [namedOnce]
  cases names : head.names h with
  | false => simp
  | true =>
    obtain ⟨one, due⟩ := planes.named hj low high names
    rw [due]
    have same : decide ((s.plane h).refCount ≤ 1) = decide ((s.plane h).refCount = 1) := decide_eq_decide.mpr (by omega)
    simp [same]

theorem stagingAfter_head (apart : ∀ i ∈ rest, ¬ i.number = head.number) :
    stagingAfter s [head] = if head.isLoad = true then [] else s.staging := by
  rw [stagingAfter_eq]
  unfold State.feeding
  rw [hj]
  cases load : head.isLoad with
  | true =>
    rw [List.find?_cons_of_pos load]
    exact if_pos ⟨head, List.mem_singleton_self _, rfl⟩
  | false =>
    rw [List.find?_cons_of_neg (by simp [load])]
    split
    · rfl
    · next f hf =>
      refine if_neg ?_
      rintro ⟨i, hi, number⟩
      obtain rfl := List.mem_singleton.mp hi
      exact apart f (List.mem_of_find?_eq_some hf) number.symm

end Head

theorem Job.notifies_eq_false {j : Job} {st : Status} :
    j.notifies st = false ↔ j.report = false ∧ ¬ j.body.kind = .mark ∧ (st = .ok ∨ st = .okNoChange ∨ st = .okMissing) := by
  unfold Job.notifies
  simp only [Bool.or_eq_false_iff, Bool.not_eq_false', decide_eq_false_iff_not, Bool.or_eq_true, decide_eq_true_eq, and_assoc,
    or_assoc]

theorem JobBody.label_eq (b : JobBody) : b.label = match b with
    | .mark label => label
    | _ => 0 := by
  cases b <;> rfl

theorem State.notifyEnd_eq (s : State) (j : Job) (st : Status) :
    s.notifyEnd j st = { s with notices := (s.notifyEnd j st).notices } := by
  unfold State.notifyEnd
  split <;> rfl

/-- What a head's end leaves, but for its notice. -/
theorem State.endHead_frame {s : State} {head : Job} {rest : List Job} (hj : s.jobs = head :: rest) (j : Job) (st : Status) :
    s.endHead j st = { s with
      planes := ((s.holdFreed j.rowsDone).depart [head] rest false).planes
      freeList := ((s.holdFreed j.rowsDone).depart [head] rest false).freeList
      notices := (s.endHead j st).notices
      jobs := rest
      staging := stagingAfter s [head]
      portA := (s.holdFreed j.rowsDone).portA, portB := (s.holdFreed j.rowsDone).portB
      bus := (s.holdFreed j.rowsDone).bus
      writeHold := none
      dataTimer := .stopped } := by
  conv_lhs => rw [State.endHead_eq hj, State.notifyEnd_eq]
  rw [State.endHead_eq hj]
  have depart := (s.holdFreed j.rowsDone).depart_frame [head] rest false
  have staging : stagingAfter (s.holdFreed j.rowsDone) [head] = stagingAfter s [head] := by
    rw [s.holdFreed_ports]
    rfl
  rw [staging] at depart
  generalize (State.notifyEnd _ j st).notices = notices
  generalize (s.holdFreed j.rowsDone).depart [head] rest false = t at depart
  have freed := s.holdFreed_ports j.rowsDone
  generalize s.holdFreed j.rowsDone = u at depart freed
  conv_lhs => rw [depart, freed]

/-- The planes that the end of a job releases. -/
theorem State.released_head {s u : State} {head : Job} {rest : List Job} (hj : s.jobs = head :: rest) (planes : PlaneLaw s)
    (plane : ∀ h, u.plane h = s.plane h) (jobs : u.jobs = s.jobs) :
    (if u.packActive = true ∨ false = true then [] else allHandles.filter (u.lastGone [head])) =
      allHandles.filter (fun h => decide ((s.plane h).state = .retiring) && decide ((s.plane h).refCount = 1) &&
        head.names h && !s.packActive) := by
  rw [State.packActive_congr jobs]
  cases s.packActive with
  | true => simp
  | false =>
    rw [if_neg (by simp)]
    refine List.filter_congr fun h hh => ?_
    obtain ⟨low, high⟩ := mem_allHandles.mp hh
    rw [Bool.not_false, Bool.and_true, ← State.lastGone_head hj planes low high]
    unfold State.lastGone
    rw [plane]

/-- The record of a plane that the end of a job leaves. -/
theorem State.depart_head_plane {s u : State} {head : Job} {rest : List Job} (hj : s.jobs = head :: rest) (planes : PlaneLaw s)
    (plane : ∀ h, u.plane h = s.plane h) (jobs : u.jobs = s.jobs) {h : Nat} (low : 1 ≤ h) (high : h ≤ 24) :
    (u.depart [head] rest false).plane h =
      if (decide ((s.plane h).state = .retiring) && decide ((s.plane h).refCount = 1) && head.names h &&
          !s.packActive) = true then freePlaneRecord
      else { s.plane h with
        refCount := (s.plane h).refCount - (if head.names h = true then 1 else 0)
        releaseDue := (s.plane h).releaseDue || (decide ((s.plane h).state = .retiring) &&
          decide ((s.plane h).refCount = 1) && head.names h) } := by
  have last : u.lastGone [head] h =
      (decide ((s.plane h).state = .retiring) && decide ((s.plane h).refCount = 1) && head.names h) := by
    rw [← State.lastGone_head hj planes low high]
    unfold State.lastGone
    rw [plane]
  rw [State.depart_plane, last, plane, namedOnce, State.packActive_congr jobs]
  cases gone : decide ((s.plane h).state = .retiring) && decide ((s.plane h).refCount = 1) && head.names h with
  | false => simp
  | true =>
    obtain ⟨⟨-, one⟩, names⟩ : ((s.plane h).state = .retiring ∧ (s.plane h).refCount = 1) ∧ head.names h = true := by
      simpa using gone
    cases s.packActive <;> simp [one, names]

/-- Settles O29: the freed hold first, then the departure of the head from it, and the notice last. -/
theorem jobEndDoesItsPartsInOrder : Obligations.JobEndDoesItsPartsInOrder := by
  unfold Obligations.JobEndDoesItsPartsInOrder
  intro s head j rest st hj planes number body apart
  have names (h : Nat) : j.names h = head.names h := by
    unfold Job.names
    rw [body]
  have load : j.isLoad = head.isLoad := by
    unfold Job.isLoad
    rw [body]
  have freed := s.holdFreed_ports j.rowsDone
  have plane (h : Nat) : (s.holdFreed j.rowsDone).plane h = s.plane h := by
    rw [freed]
    rfl
  have same : (s.holdFreed j.rowsDone).freeList = s.freeList ∧ (s.holdFreed j.rowsDone).notices = s.notices := by
    rw [freed]
    exact ⟨rfl, rfl⟩
  obtain ⟨freeList, notices⟩ := (s.holdFreed j.rowsDone).depart_lists [head] rest false
  rw [State.released_head hj planes plane (s.holdFreed_jobs _)] at freeList notices
  simp only [plane, same.1, same.2] at freeList notices
  have frame := State.endHead_frame hj j st
  simp only [names, load]
  refine ⟨?_, ?_, ?_, ?_, fun h low high => ?_, ?_, ?_, ?_, fun quiet bus => ?_, ?_⟩
  · rw [frame]
  · rw [frame]
  · rw [frame]
  · rw [State.endHead_eq hj, ← notices]
    unfold State.notifyEnd
    cases told : j.notifies st with
    | false =>
      rw [if_pos (Job.notifies_eq_false.mp told)]
      rfl
    | true =>
      rw [if_neg fun quiet => Bool.noConfusion (told.symm.trans (Job.notifies_eq_false.mpr quiet))]
      show NoticeUnit.push _ (.jobEnd j.number j.body.kind st j.rowsDone j.missingItem j.body.label) = _
      rw [JobBody.label_eq]
      rfl
  · have table : (s.endHead j st).plane h = ((s.holdFreed j.rowsDone).depart [head] rest false).plane h := by
      rw [frame]
      rfl
    rw [table]
    exact State.depart_head_plane hj planes plane (s.holdFreed_jobs _) low high
  · rw [frame]
    exact freeList
  · rw [frame]
    exact stagingAfter_head hj (number ▸ apart)
  · rw [frame]
    exact ⟨rfl, fun p => by cases p <;> rfl⟩
  · obtain ⟨same, ports⟩ := State.holdFreed_quiet quiet bus j.rowsDone
    rw [frame]
    exact ⟨same, fun p => by cases p; exacts [ports .a, ports .b]⟩
  · rw [frame]
    exact ⟨rfl, rfl, rfl, rfl, rfl, rfl, rfl, rfl, rfl, rfl, rfl⟩

end Sys2Proof.Machine
end

section
/-! CANCEL, FLUSH and QUEUE_INFO (O33, O34, O35). -/

namespace Sys2Proof.Machine

set_option Elab.async false

/-- A number that two bytes spell is written as those bytes. -/
theorem itemU16_joined (hi lo : Byte) : itemU16 (hi.toNat * 256 + lo.toNat) = [hi, lo] := by
  have high : (hi.toNat * 256 + lo.toNat) / 256 = hi.toNat := by
    have := lo.isLt
    omega
  unfold itemU16
  rw [high, BitVec.ofNat_toNat, BitVec.setWidth_eq]
  congr 1
  refine congrArg (· :: []) (BitVec.eq_of_toNat_eq ?_)
  have := lo.isLt
  rw [BitVec.toNat_ofNat]
  omega

section Requests

variable {s u : State} {tag : Byte} {body : List Byte} {before after : List Slot}

theorem NextRequest.exec_cancel {hi lo : Byte} (hn : NextRequest s kindCancel tag [hi, lo] before after)
    (hu : cancel [hi, lo] (s.taken kindCancel tag [hi, lo] before after) = u) : exec .cancel s = .next u.transmit := by
  subst hu
  exact congrArg Host.Outcome.next (hn.serveFixed 2 rfl cancel)

theorem NextRequest.exec_flush (hn : NextRequest s kindFlush tag [] before after)
    (hu : flush [] (s.taken kindFlush tag [] before after) = u) : exec .flush s = .next u.transmit := by
  subst hu
  exact congrArg Host.Outcome.next (hn.serveFixed 0 rfl flush)

theorem NextRequest.exec_queueInfo (hn : NextRequest s kindQueueInfo tag body before after)
    (hu : queueInfo body (s.taken kindQueueInfo tag body before after) = u) : exec .queueInfo s = .next u.transmit := by
  subst hu
  exact congrArg Host.Outcome.next (hn.serve queueInfo)

end Requests

/-! ## CANCEL -/

theorem State.taken_stopsAtOnce (s : State) (kind tag : Byte) (body : List Byte) (before after : List Slot) (j : Job) :
    (s.taken kind tag body before after).stopsAtOnce j = s.stopsAtOnce j := rfl

theorem cancel_found {t : State} {body : List Byte} {j : Job}
    (found : t.jobs.find? (fun j => j.number == fieldU16 body 0) = some j) :
    cancel body t =
      if j.running = false then (t.removeWaiting j).answer (removedReply 1 (fieldU16 body 0) (fieldU16 body 0))
      else if t.stopsAtOnce j = true then (t.stopHead j).examine.answer (removedReply 1 (fieldU16 body 0) (fieldU16 body 0))
      else t.occupy (.cancel (fieldU16 body 0)) := by
  unfold cancel
  dsimp only
  rw [found]

theorem SeesWorkOnly.departExamine (gone kept : List Job) : SeesWorkOnly (fun s => (s.depart gone kept false).examine) :=
  SeesWorkOnly.comp (g := State.examine) .examine (.depart gone kept false)

/-- Settles O33: the number is found where the queue holds it once, and the job there is waiting or running. -/
theorem cancelRemovesTheNamedJob : Obligations.CancelRemovesTheNamedJob := by
  unfold Obligations.CancelRemovesTheNamedJob
  intro s tag hi lo before after hn law
  have reply : removedReply 1 (fieldU16 [hi, lo] 0) (fieldU16 [hi, lo] 0) =
      { status := .ok, items := itemU8 1 ++ [hi, lo] ++ [hi, lo] } := by
    unfold removedReply
    rw [show fieldU16 [hi, lo] 0 = hi.toNat * 256 + lo.toNat from rfl, itemU16_joined]
  have answered {f : State → State} (sees : SeesWorkOnly f)
      (hu : cancel [hi, lo] (s.taken kindCancel tag [hi, lo] before after) =
        (f (s.taken kindCancel tag [hi, lo] before after)).answer (removedReply 1 (fieldU16 [hi, lo] 0) (fieldU16 [hi, lo] 0))) :
      exec .cancel s = .next ((f s).replied kindCancel tag
        { status := .ok, items := itemU8 1 ++ [hi, lo] ++ [hi, lo] } before after).transmit := by
    refine hn.exec_cancel (hu.trans ?_)
    rw [reply]
    exact hn.answerAfter sees _
  refine ⟨fun absent => hn.exec_cancel ?_, fun front j back hs number => ?_⟩
  · have none : (s.taken kindCancel tag [hi, lo] before after).jobs.find? (fun j => j.number == fieldU16 [hi, lo] 0) = .none :=
      List.find?_eq_none.mpr fun j hj e => absent j hj (beq_iff_eq.mp e)
    unfold cancel
    dsimp only
    rw [none]
    exact hn.refuse .noSuchJob
  · obtain ⟨-, -, -, -, apart, -⟩ := law
    have found : (s.taken kindCancel tag [hi, lo] before after).jobs.find? (fun j => j.number == fieldU16 [hi, lo] 0) =
        some j := by
      rw [State.taken_jobs, hs]
      refine find?_split (fun i hi => ?_) (beq_iff_eq.mpr number)
      rw [hs] at apart
      have other := (List.pairwise_append.mp apart).2.2 i hi j List.mem_cons_self
      exact beq_eq_false_iff_ne.mpr fun e => other (e.trans number.symm)
    have rule := cancel_found found
    refine ⟨fun waits => ?_, fun runs => ⟨fun once => ?_, fun later => hn.exec_cancel ?_⟩⟩
    · rw [if_pos (Job.still_of_waits waits), State.removeWaiting_eq (s := s.taken kindCancel tag [hi, lo] before after) hs apart] at rule
      by_cases first : front = []
      · rw [if_pos first] at rule ⊢
        exact answered (.departExamine [j] back) rule
      · rw [if_neg first] at rule ⊢
        exact answered (.depart [j] (front ++ back) false) rule
    · have run : j.running = true := by rcases runs with is | is <;> simp [Job.running, is]
      rw [if_neg (by simp [run]), State.taken_stopsAtOnce, if_pos once] at rule
      exact answered (SeesWorkOnly.comp (g := State.examine) .examine (.stopHead j)) rule
    · have run : j.running = true := by rcases runs with is | is <;> simp [Job.running, is]
      rw [if_neg (by simp [run]), if_neg (by rw [State.taken_stopsAtOnce, later]; nofun)] at rule
      exact rule

/-! ## FLUSH -/

theorem State.flushWaiting_still {s : State} (still : ∀ j ∈ s.jobs.head?, j.running = false) (byReset : Bool) :
    s.flushWaiting byReset = s.depart s.jobs [] byReset := by
  have kept : s.keptHead = [] := by
    cases hj : s.jobs with
    | nil =>
      unfold State.keptHead
      rw [hj]
      rfl
    | cons j rest =>
      rw [keptHead_cons hj, if_neg]
      rw [still j (by rw [hj]; rfl)]
      nofun
  unfold State.flushWaiting State.flushedJobs
  rw [kept]
  rfl

theorem State.flushWaiting_running {s : State} {j : Job} {rest : List Job} (hj : s.jobs = j :: rest) (run : j.running = true)
    (byReset : Bool) : s.flushWaiting byReset = s.depart rest [j] byReset := by
  unfold State.flushWaiting State.flushedJobs
  rw [keptHead_cons hj, if_pos run, hj]
  rfl

theorem State.depart_stopsAtOnce (s : State) (gone kept : List Job) (byReset : Bool) (j : Job) :
    (s.depart gone kept byReset).stopsAtOnce j = s.stopsAtOnce j := by
  rw [s.depart_frame]
  rfl

/-- Settles O34: what the first departure leaves is the running head or nothing. -/
theorem flushEmptiesTheQueue : Obligations.FlushEmptiesTheQueue := by
  unfold Obligations.FlushEmptiesTheQueue
  intro s tag before after hn
  refine ⟨fun still => hn.exec_flush ?_, fun j rest hj run => ⟨fun once => hn.exec_flush ?_, fun later => hn.exec_flush ?_⟩⟩
  · have left : (s.taken kindFlush tag [] before after).flushWaiting false = _ := 
      State.flushWaiting_still (s := s.taken kindFlush tag [] before after) still false
    unfold flush
    dsimp only
    rw [left, State.depart_jobs]
    exact hn.answerAfter (.depart s.jobs [] false) _
  · have left : (s.taken kindFlush tag [] before after).flushWaiting false = _ := 
      State.flushWaiting_running (s := s.taken kindFlush tag [] before after) hj run false
    unfold flush
    dsimp only
    rw [left, State.depart_jobs]
    dsimp only
    rw [State.depart_stopsAtOnce, State.taken_stopsAtOnce, if_pos once]
    exact hn.answerAfter (SeesWorkOnly.comp (g := fun t => t.stopHead j) (.stopHead j) (.depart rest [j] false)) _
  · have left : (s.taken kindFlush tag [] before after).flushWaiting false = _ := 
      State.flushWaiting_running (s := s.taken kindFlush tag [] before after) hj run false
    unfold flush
    dsimp only
    rw [left, State.depart_jobs]
    dsimp only
    rw [State.depart_stopsAtOnce, if_neg (by rw [State.taken_stopsAtOnce, later]; nofun),
      (SeesWorkOnly.depart rest [j] false).taken]
    rfl

/-! ## QUEUE_INFO -/

/-- Settles O35: a body of another length, the summary alone, and the record of the job with the number. -/
theorem queueInfoReportsTheQueue : Obligations.QueueInfoReportsTheQueue := by
  unfold Obligations.QueueInfoReportsTheQueue
  intro s tag body before after hn
  have summary (zero : body.length = 0 ∨ fieldU16 body 0 = 0) (fits : body.length = 0 ∨ body.length = 2) :
      exec .queueInfo s =
        .next (s.replied kindQueueInfo tag { status := .ok, items := s.queueSummary } before after).transmit := by
    refine hn.exec_queueInfo ?_
    unfold queueInfo
    rw [if_neg (not_not_intro fits), if_pos zero]
    exact hn.answerAtOnce _
  refine ⟨fun notEmpty notTwo => hn.exec_queueInfo ?_, fun empty => ?_, fun hi lo pair =>
    ⟨fun hi0 lo0 => ?_, fun some => ⟨fun absent => hn.exec_queueInfo ?_, fun front j back hs number first => hn.exec_queueInfo ?_⟩⟩⟩
  · unfold queueInfo
    rw [if_pos fun fits => fits.elim notEmpty notTwo]
    exact hn.refuse .badLength
  · exact summary (.inl (congrArg List.length empty)) (.inl (congrArg List.length empty))
  · subst pair hi0 lo0
    exact summary (.inr rfl) (.inr rfl)
  · subst pair
    have none : (s.taken kindQueueInfo tag [hi, lo] before after).jobs.find? (fun j => j.number == fieldU16 [hi, lo] 0) =
        .none := List.find?_eq_none.mpr fun j hj e => absent j hj (beq_iff_eq.mp e)
    unfold queueInfo
    rw [if_neg (not_not_intro (.inr rfl)), if_neg fun zero => zero.elim nofun some, none]
    exact hn.refuse .noSuchJob
  · subst pair
    have found : (s.taken kindQueueInfo tag [hi, lo] before after).jobs.find? (fun j => j.number == fieldU16 [hi, lo] 0) =
        .some j := by
      rw [State.taken_jobs, hs]
      exact find?_split (fun i hi => beq_eq_false_iff_ne.mpr (first i hi)) (beq_iff_eq.mpr number)
    unfold queueInfo
    rw [if_neg (not_not_intro (.inr rfl)), if_neg fun zero => zero.elim nofun some, found]
    refine (hn.answerAtOnce _).trans ?_
    unfold Job.items
    simp only [← List.append_assoc]
    rfl

end Sys2Proof.Machine
end

section
/-! The rows of drawing jobs while they go on (O37, O38, O39). -/

namespace Sys2Proof.Machine

set_option Elab.async false

/-! ## A row's end -/

section RowEnd

variable {s goesOn : State} {j : Job} {rest : List Job} {height : Nat} {st : Status}

theorem State.afterRow_goesOn (quiet : s.stopPending = false) (more : ¬ j.rowsDone = height) :
    s.afterRow j height st goesOn = goesOn := by
  unfold State.afterRow
  rw [if_neg (by rw [quiet]; nofun), if_neg more]

/-- A command that ends a row of a job that goes on. -/
theorem exec_goesOn {c : Instr} {s t goesOn : State} {j : Job} {height : Nat} {st : Status}
    (row : exec c s = .next (t.afterRow j height st goesOn).transmit) (quiet : t.stopPending = false)
    (more : ¬ j.rowsDone = height) : exec c s = .next goesOn.transmit := by
  rw [row, State.afterRow_goesOn quiet more]

theorem State.afterRow_last (quiet : s.stopPending = false) (last : j.rowsDone = height) :
    s.afterRow j height st goesOn = (s.endHead j st).examine := by
  unfold State.afterRow
  rw [if_neg (by rw [quiet]; nofun), if_pos last]

theorem State.afterRow_stopped (pending : s.stopPending = true) : s.afterRow j height st goesOn = s.stopAtBoundary j :=
  if_pos pending

variable (hj : s.jobs = j :: rest) (active : j.state = .active)
include hj active

theorem exec_fillRowEnd {d : DrawFields} (hb : j.body = .fill d) :
    exec .fillRowEnd s =
      .next (State.afterRow { s.fillRow j d with jobs := j.nextRow :: rest } j.nextRow d.rect.h .ok
        { s.fillRow j d with jobs := j.nextRow :: rest }).transmit := by
  have head : (s.fillRow j d).setHead j.nextRow = { s.fillRow j d with jobs := j.nextRow :: rest } :=
    State.setHead_eq (s := s.fillRow j d) hj _
  show execFillRowEnd s = _
  unfold execFillRowEnd State.fillRowEnd
  rw [hj]
  simp only [active, hb, head]

theorem exec_blockRowEnd {d : DrawFields} {src sx sy : Nat} (hb : j.body = .block d src sx sy) :
    exec .blockRowEnd s =
      .next (State.afterRow { s.blockRow j d with jobs := j.nextRow :: rest } j.nextRow d.rect.h .ok
        { s.blockRow j d with jobs := j.nextRow :: rest }).transmit := by
  have head : (s.blockRow j d).setHead j.nextRow = { s.blockRow j d with jobs := j.nextRow :: rest } :=
    State.setHead_eq (s := s.blockRow j d) hj _
  show execBlockRowEnd s = _
  unfold execBlockRowEnd State.blockRowEnd
  rw [hj]
  simp only [active, hb, head]

theorem exec_textRowEnd {h font : Nat} {pen base : Int} {ink : Px} {fn : BitVec 4} {codes : List Nat} {hold : Hold}
    (hb : j.body = .text h font pen base ink fn codes) (held : s.writeHold = some hold) :
    exec .textRowEnd s =
      .next (State.afterRow { s.textRow j h hold.rect fn ink with jobs := j.nextRow :: rest } j.nextRow hold.rect.h
        (textStatus j.fixed.missing) { s.textRow j h hold.rect fn ink with jobs := j.nextRow :: rest }).transmit := by
  have head : (s.textRow j h hold.rect fn ink).setHead j.nextRow =
      { s.textRow j h hold.rect fn ink with jobs := j.nextRow :: rest } :=
    State.setHead_eq (s := s.textRow j h hold.rect fn ink) hj _
  show execTextRowEnd s = _
  unfold execTextRowEnd State.textRowEnd
  rw [hj, held]
  simp only [active, hb, head]

theorem exec_loadRowEnd {h : Nat} {r : Rect} {fn : BitVec 4} {total got : Nat} (hb : j.body = .load h r fn total got) :
    (let t : State := { s.loadRow j h r fn with
      staging := s.staging.drop (s.rowByteCount h r.w), jobs := j.nextRow :: rest }
    exec .loadRowEnd s =
      .next (t.afterRow j.nextRow r.h .ok (t.loadProceed j.nextRow (s.rowByteCount h r.w))).transmit) := by
  have head := State.setHead_eq (s := { s.loadRow j h r fn with staging := s.staging.drop (s.rowByteCount h r.w) }) hj
    j.nextRow
  show execLoadRowEnd s = _
  unfold execLoadRowEnd State.loadRowEnd
  dsimp only
  rw [hj, ← head]
  simp only [active, hb]

end RowEnd

/-! ## FILL and BLOCK -/

/-- The bits of a combination, each by the function's own bit for it. -/
theorem combine_bits (depth : Nat) (fn : BitVec 4) (v old : Px) :
    (combine depth fn v old).getLsbD 0 = fn.getLsbD ((v.getLsbD 0).toNat + 2 * (old.getLsbD 0).toNat) ∧
      (combine depth fn v old).getLsbD 1 =
        (decide (depth = 2) && fn.getLsbD ((v.getLsbD 1).toNat + 2 * (old.getLsbD 1).toNat)) := by
  have bits : ∀ high low : Bool, (BitVec.ofBool high ++ BitVec.ofBool low).getLsbD 0 = low ∧
      (BitVec.ofBool high ++ BitVec.ofBool low).getLsbD 1 = high := by decide
  unfold combine combineBit
  obtain ⟨low, high⟩ := bits (if depth = 2 then fn.getLsbD ((v.getLsbD 1).toNat + 2 * (old.getLsbD 1).toNat) else false)
    (fn.getLsbD ((v.getLsbD 0).toNat + 2 * (old.getLsbD 0).toNat))
  refine ⟨low, high.trans ?_⟩
  by_cases deep : depth = 2 <;> simp [deep]

/-- Settles O37: the function handed to the row is the combination of the source values, and its bits are the function's. -/
theorem fillAndBlockRowsAreDrawn : Obligations.FillAndBlockRowsAreDrawn := by
  unfold Obligations.FillAndBlockRowsAreDrawn
  intro s j rest hj active quiet
  refine ⟨fun d hb kind more => ?_, fun d src sx sy hb kind more => ?_⟩
  · refine ⟨fun x old => combine (s.plane d.dest).depth d.fn
      (fillSourceAt j d (s.plane d.dest).depth x (d.rect.y + j.rowsDone)) old, ?_, fun i old _ => ?_⟩
    · exact exec_goesOn (exec_fillRowEnd hj active hb) quiet more
    · have value : fillSourceAt j d (s.plane d.dest).depth i (d.rect.y + j.rowsDone) =
          if d.source = .const then reduceTo (s.plane d.dest).depth d.constant
          else j.patternAt (s.plane d.dest).depth i (d.rect.y + j.rowsDone) := by
        unfold fillSourceAt
        rcases kind with is | is <;> simp [is]
      beta_reduce
      rw [value]
      exact combine_bits ..
  · refine ⟨fun x old => combine (s.plane d.dest).depth d.fn
      (blockSourceAt j d (s.plane d.dest).depth (x - d.rect.x) j.rowsDone) old, ?_, fun i old inside => ?_⟩
    · exact exec_goesOn (exec_blockRowEnd hj active hb) quiet more
    · have value : blockSourceAt j d (s.plane d.dest).depth (i - d.rect.x) j.rowsDone =
          if d.source = .plane then (j.fixed.source.getD j.rowsDone []).getD (i - d.rect.x) 0
          else (j.fixed.source.getD j.rowsDone []).getD (i - d.rect.x) 0 &&&
            j.patternAt (s.plane d.dest).depth i (d.rect.y + j.rowsDone) := by
        unfold blockSourceAt
        rw [Nat.add_sub_cancel' inside]
        rcases kind with is | is <;> simp [is]
      beta_reduce
      rw [value]
      exact combine_bits ..

/-! ## LOAD -/

/-- Settles O38: the row leaves the buffer and the next one is staged or awaited; the timeout is the end of a LOAD, which
takes its bytes with it. -/
theorem loadRowsAreDrawnOrDataTimesOut : Obligations.LoadRowsAreDrawnOrDataTimesOut := by
  unfold Obligations.LoadRowsAreDrawnOrDataTimesOut
  refine ⟨fun s j rest h r fn total got hj active hb quiet more => ?_, fun s j rest hj awaits running law => ?_⟩
  · refine (exec_goesOn (exec_loadRowEnd hj active hb) quiet more).trans ?_
    unfold State.loadProceed State.rowByteCount
    dsimp only
    split
    · rfl
    · unfold Job.nextRow
      rw [active]
      rfl
  · obtain ⟨⟨-, -, -, loads, apart, -⟩, -⟩ := law
    rw [hj] at loads apart
    have load : j.isLoad = true := loads j List.mem_cons_self awaits
    have others := (List.pairwise_cons.mp apart).1
    have frame := State.endHead_frame hj j .dataTimeout
    refine ⟨?_, ?_, ?_, ?_⟩
    · show execDataTimeout s = _
      unfold execDataTimeout
      rw [hj]
      exact if_pos ⟨awaits, running⟩
    · rw [frame]
      exact (stagingAfter_head hj fun i hi e => others i hi e.symm).trans (if_pos load)
    · rw [frame]
    · rw [frame]

/-! ## TEXT -/

/-- Settles O39: the fold over all glyphs that asks each whether it covers the pixel is the fold over those that do. -/
theorem textRowIsInked : Obligations.TextRowIsInked := by
  unfold Obligations.TextRowIsInked
  intro s j rest h font pen base ink fn codes hold hj active hb held quiet more
  refine ⟨fun x old => s.inkedValue j.fixed.glyphs (s.plane h).depth fn ink x (hold.rect.y + j.rowsDone) old, ?_,
    fun x old => ?_⟩
  · exact exec_goesOn (exec_textRowEnd hj active hb held) quiet more
  · unfold State.inkedValue
    rw [List.foldl_filter]
    rfl

end Sys2Proof.Machine
end

section
/-! What an ENGINE reset leaves, at once and at a row's end (O5, O40). -/

namespace Sys2Proof.Machine

set_option Elab.async false

/-! ## The plane table -/

theorem State.resetPlane_frame (s : State) (h : Nat) :
    s.resetPlane h = { s with planes := (s.resetPlane h).planes, freeList := (s.resetPlane h).freeList } := by
  unfold State.resetPlane State.releasePlane State.setPlane
  repeat' split
  all_goals rfl

theorem State.resetPlanes_frame (s : State) (l : List Nat) :
    l.foldl State.resetPlane s =
      { s with planes := (l.foldl State.resetPlane s).planes, freeList := (l.foldl State.resetPlane s).freeList } := by
  induction l generalizing s with
  | nil => rfl
  | cons h l ih =>
    rw [List.foldl_cons]
    have rest := ih (s.resetPlane h)
    rw [s.resetPlane_frame h] at rest
    rw [s.resetPlane_frame h]
    exact rest

theorem State.resetPlane_freeList (s : State) (h : Nat) :
    (s.resetPlane h).freeList =
      if (s.plane h).state = .retiring then releaseExtent s.freeList (s.plane h).extent else s.freeList := by
  unfold State.resetPlane
  split
  · next is => rw [is, if_neg nofun]
  · next is =>
    rw [is, if_neg nofun]
    exact State.setPlane_freeList ..
  · next is =>
    rw [is, if_pos rfl]
    exact s.releasePlane_freeList h

/-- The extents of the RETIRING planes are returned in the order of the handles. -/
theorem resetPlanes_freeList {l : List Nat} (once : l.Nodup) (inTable : ∀ h ∈ l, 1 ≤ h ∧ h ≤ 24) (s : State) :
    (l.foldl State.resetPlane s).freeList =
      (l.filter (fun h => decide ((s.plane h).state = .retiring))).foldl
        (fun l h => releaseExtent l (s.plane h).extent) s.freeList := by
  induction l generalizing s with
  | nil => rfl
  | cons k l ih =>
    obtain ⟨fresh, once⟩ := List.nodup_cons.mp once
    obtain ⟨low, high⟩ := inTable k List.mem_cons_self
    have others : ∀ h ∈ l, (s.resetPlane k).plane h = s.plane h := fun h hh => by
      rw [s.resetPlane_plane k h low high, if_neg]
      rintro rfl
      exact fresh hh
    have same : l.filter (fun h => decide (((s.resetPlane k).plane h).state = .retiring)) =
        l.filter (fun h => decide ((s.plane h).state = .retiring)) :=
      List.filter_congr fun h hh => by rw [others h hh]
    have extents (m : List Extent) :
        (l.filter (fun h => decide ((s.plane h).state = .retiring))).foldl
            (fun l h => releaseExtent l ((s.resetPlane k).plane h).extent) m =
          (l.filter (fun h => decide ((s.plane h).state = .retiring))).foldl
            (fun l h => releaseExtent l (s.plane h).extent) m :=
      List.foldl_ext _ _ _ fun a h hh => by rw [others h (List.mem_of_mem_filter hh)]
    rw [List.foldl_cons, ih once (fun h hh => inTable h (List.mem_cons_of_mem _ hh)), same, extents, s.resetPlane_freeList,
      List.filter_cons]
    by_cases retiring : (s.plane k).state = .retiring
    · rw [if_pos retiring, if_pos (decide_eq_true retiring), List.foldl_cons]
    · rw [if_neg retiring, if_neg (by simpa using retiring)]

theorem Plane.engineReset_live {p : Plane} (is : p.state = .live) : p.engineReset = { p with refCount := 0 } := by
  unfold Plane.engineReset
  simp only [is]

/-! ## The ports -/

/-- `u` is `r` but for its damage and its hold-off timer. -/
def OnlyDamaged (r u : PortRec) : Prop :=
  u = { r with damage := u.damage, whole := u.whole, holdOffTimer := u.holdOffTimer }

theorem OnlyDamaged.refl (r : PortRec) : OnlyDamaged r r := rfl

theorem OnlyDamaged.trans {r u v : PortRec} (h : OnlyDamaged r u) (k : OnlyDamaged u v) : OnlyDamaged r v := by
  unfold OnlyDamaged at *
  rw [h] at k
  exact k

theorem OnlyDamaged.addPlaneDamage (r : PortRec) (t : Rect) : OnlyDamaged r (r.addPlaneDamage t) := by
  unfold PortRec.addPlaneDamage
  split <;> rfl

theorem OnlyDamaged.damagedPort (s : State) (rows : Nat) (p : Port) : OnlyDamaged (s.port p) (s.damagedPort rows p) := by
  unfold State.damagedPort
  split
  · exact .refl _
  · split
    · exact .addPlaneDamage _ _
    · exact .refl _

theorem State.damagedPort_unconfigured {s : State} {p : Port} (h : s.port p = unconfiguredPort) (rows : Nat) :
    s.damagedPort rows p = unconfiguredPort := by
  unfold State.damagedPort
  rw [h]
  split
  · rfl
  · rw [PortRec.addPlaneDamage_unconfigured, ite_self]

theorem PortRec.freshHoldOff_eq (r : PortRec) : r.freshHoldOff = r.autoTimer := by
  unfold PortRec.freshHoldOff PortRec.autoTimer
  cases r.mode <;> rfl

theorem State.resetDone_plane (t : State) (h : Nat) : t.resetDone.plane h = t.plane h := rfl

section EngineReset

variable {r : PortRec} (d : List Rect) (w : Bool) (t : Timer)

theorem PortRec.engineReset_idle (is : r.state = .idle ∨ ∃ w, r.state = .pending w) (busy : r.state = .idle → r.busyTimer = .stopped) :
    PortRec.engineReset { r with damage := d, whole := w, holdOffTimer := t } =
      { r.wholeAlone with state := .idle, busyTimer := .stopped, holdOffTimer := r.autoTimer } := by
  unfold PortRec.engineReset PortRec.resetDamage PortRec.wholeAlone
  rw [← r.freshHoldOff_eq]
  rcases is with is | ⟨wait, is⟩
  · simp only [is, busy is]
    rfl
  · simp only [is]
    rfl

theorem PortRec.engineReset_streaming {set : RefreshSet} {cmd : StreamCommand} {mark : Bool}
    (is : r.state = .streaming set cmd mark) :
    PortRec.engineReset { r with damage := d, whole := w, holdOffTimer := t } =
      { r.wholeAlone with
        state := .streaming set cmd true
        holdOffTimer := if cmd = .update then t else r.autoTimer } := by
  unfold PortRec.engineReset PortRec.resetDamage PortRec.wholeAlone
  rw [← r.freshHoldOff_eq]
  simp only [is]
  cases cmd <;> rfl

theorem PortRec.engineReset_settling {set : RefreshSet} {mark : Bool} (is : r.state = .settling set mark) :
    PortRec.engineReset { r with damage := d, whole := w, holdOffTimer := t } =
      { r.wholeAlone with state := .settling set true, holdOffTimer := t } := by
  unfold PortRec.engineReset
  simp only [is]
  rfl

theorem PortRec.engineReset_fault {c : FaultCause} (is : r.state = .fault c) :
    PortRec.engineReset { r with damage := d, whole := w, holdOffTimer := t } =
      { r.wholeAlone with state := .fault c, holdOffTimer := .stopped } := by
  unfold PortRec.engineReset
  simp only [is]
  rfl

end EngineReset

/-! ## What remains of the part when its jobs are gone -/

/-- `t` is `s` but for its jobs, what a departure takes with them, and the damage of the rows done. -/
structure Emptied (s t : State) : Prop where
  counter : t.jobCounter = s.jobCounter
  notices : t.notices = s.notices
  freeList : t.freeList = s.freeList
  link : t.link = s.link
  plane : ∀ h, t.plane h = { s.plane h with refCount := (t.plane h).refCount }
  fewer : ∀ h, (t.plane h).refCount ≤ (s.plane h).refCount
  port : ∀ p, OnlyDamaged (s.port p) (t.port p)
  unconfigured : ∀ p, s.port p = unconfiguredPort → t.port p = unconfiguredPort
  rest : t.mem = s.mem ∧ t.patterns = s.patterns ∧ t.fonts = s.fonts ∧ t.glyphs = s.glyphs ∧ t.bus = s.bus ∧
    t.busyLineA = s.busyLineA ∧ t.busyLineB = s.busyLineB ∧ t.powerOns = s.powerOns ∧ t.pending = s.pending

section Emptied

variable {s t u : State}

theorem Emptied.trans (h : Emptied s t) (k : Emptied t u) : Emptied s u where
  counter := k.counter.trans h.counter
  notices := k.notices.trans h.notices
  freeList := k.freeList.trans h.freeList
  link := k.link.trans h.link
  plane := fun i => by rw [k.plane, h.plane]
  fewer := fun i => (k.fewer i).trans (h.fewer i)
  port := fun p => (h.port p).trans (k.port p)
  unconfigured := fun p e => k.unconfigured p (h.unconfigured p e)
  rest := by
    obtain ⟨h1, h2, h3, h4, h5, h6, h7, h8, h9⟩ := h.rest
    obtain ⟨k1, k2, k3, k4, k5, k6, k7, k8, k9⟩ := k.rest
    exact ⟨k1.trans h1, k2.trans h2, k3.trans h3, k4.trans h4, k5.trans h5, k6.trans h6, k7.trans h7, k8.trans h8, k9.trans h9⟩

theorem Emptied.depart (s : State) (gone kept : List Job) : Emptied s (s.depart gone kept true) := by
  obtain ⟨freeList, notices⟩ := s.depart_lists gone kept true
  rw [if_pos (.inr rfl)] at freeList notices
  have ports (p : Port) : (s.depart gone kept true).port p = s.port p := by
    rw [s.depart_frame]
    cases p <;> rfl
  refine ⟨?_, notices, freeList, ?_, fun h => ?_, fun h => ?_, fun p => ?_, fun p e => (ports p).trans e, ?_⟩
  · rw [s.depart_frame]
  · rw [s.depart_frame]
  · rw [s.depart_plane, Bool.not_true, Bool.and_false, if_neg nofun]
  · rw [s.depart_plane, Bool.not_true, Bool.and_false, if_neg nofun]
    exact Nat.sub_le _ _
  · rw [ports]
    exact .refl _
  · rw [s.depart_frame]
    exact ⟨rfl, rfl, rfl, rfl, rfl, rfl, rfl, rfl, rfl⟩

theorem Emptied.recordRows (s : State) (rows : Nat) : Emptied s (s.recordRows rows) := by
  rw [s.recordRows_eq]
  refine ⟨rfl, rfl, rfl, rfl, fun _ => rfl, fun _ => Nat.le_refl _, fun p => ?_, fun p e => ?_,
    rfl, rfl, rfl, rfl, rfl, rfl, rfl, rfl, rfl⟩
  · cases p <;> exact .damagedPort s rows _
  · cases p <;> exact State.damagedPort_unconfigured e rows

theorem Emptied.stopHeadForReset (s : State) (j : Job) : Emptied s (s.stopHeadForReset j) := by
  have gone := (Emptied.recordRows s j.rowsDone).trans
    (.depart _ ((s.recordRows j.rowsDone).jobs.take 1) (s.recordRows j.rowsDone).jobs.tail)
  obtain ⟨counter, notices, freeList, link, plane, fewer, port, unconfigured, rest⟩ := gone
  exact ⟨counter, notices, freeList, link, plane, fewer, fun p => by cases p; exacts [port .a, port .b],
    fun p => by cases p; exacts [unconfigured .a, unconfigured .b], rest⟩

/-- The ENGINE reset, once the jobs are gone, as the manual tells it. -/
theorem Emptied.engineResetDone (h : Emptied s t) (empty : t.jobs = []) (planes : PlaneLaw s) (ports : PortsLaw s) :
    EngineResetDone s t.finishEngineReset := by
  have frame := t.resetPlanes_frame allHandles
  have table := t.resetPlanes_plane
  have freeList := resetPlanes_freeList allHandles_nodup (fun _ => mem_allHandles.mp) t
  rw [State.finishEngineReset_eq]
  generalize allHandles.foldl State.resetPlane t = v at frame table freeList
  have port (p : Port) : v.resetDone.port p = (t.port p).engineReset := by
    rw [frame]
    cases p <;> rfl
  have damaged (p : Port) : v.resetDone.port p = PortRec.engineReset { s.port p with
      damage := (t.port p).damage, whole := (t.port p).whole, holdOffTimer := (t.port p).holdOffTimer } :=
    (port p).trans (congrArg PortRec.engineReset (h.port p))
  have law (p : Port) : PortLaw (s.port p) := by cases p; exacts [ports.1, ports.2.1]
  have free (i : Nat) (is : (s.plane i).state = .free) : s.plane i = freePlaneRecord := by
    by_cases inTable : 1 ≤ i ∧ i ≤ 24
    · exact (planes.1 i inTable.1 inTable.2).1 is
    · exact State.plane_outside s i (by omega)
  have same : allHandles.filter (fun h => decide ((t.plane h).state = .retiring)) =
      allHandles.filter (fun h => decide ((s.plane h).state = .retiring)) :=
    List.filter_congr fun i _ => by rw [h.plane]
  have state (i : Nat) : (t.plane i).state = (s.plane i).state := by rw [h.plane]
  have extent (i : Nat) : (t.plane i).extent = (s.plane i).extent := by rw [h.plane]
  simp only [same, extent, h.freeList] at freeList
  obtain ⟨mem, patterns, fonts, glyphs, bus, lineA, lineB, powerOns, pending⟩ := h.rest
  refine ⟨?_, ⟨rfl, rfl⟩, ?_, ?_, fun i is => ?_, fun i is => ?_, freeList, fun p is => ?_, fun p is => ?_,
    fun p set cmd mark is => ?_, fun p set mark is => ?_, fun p c is => ?_, ?_⟩
  · rw [frame]
    exact ⟨empty, h.counter, rfl, rfl⟩
  · rw [frame]
    exact congrArg (NoticeUnit.push · _) h.notices
  · rw [frame]
    exact congrArg (fun l : Link => { l with cache := [], work := none }) h.link
  · rw [v.resetDone_plane, table]
    rw [Plane.engineReset_live ((state i).trans is), h.plane]
  · rw [v.resetDone_plane, table]
    unfold Plane.engineReset
    rw [state]
    cases hs : (s.plane i).state with
    | live => exact absurd hs is
    | retiring => rfl
    | free =>
      have few := h.fewer i
      have record := h.plane i
      rw [free i hs] at few record
      rw [record, Nat.le_zero.mp few]
      rfl
  · obtain ⟨unconfigured, -⟩ := law p
    rw [port, h.unconfigured p (unconfigured is), unconfigured is]
    rfl
  · rw [damaged]
    refine PortRec.engineReset_idle _ _ _ is fun idle => ?_
    obtain ⟨-, -, -, -, -, -, -, -, -, -, busy⟩ := law p
    rw [idle] at busy
    cases timer : (s.port p).busyTimer with
    | stopped => rfl
    | running ms => rw [timer] at busy; cases busy
  · rw [damaged, PortRec.engineReset_streaming _ _ _ is]
    by_cases last : cmd = .update
    · simp only [if_pos last]
    · simp only [if_neg last]
  · rw [damaged, PortRec.engineReset_settling _ _ _ is]
  · rw [damaged, PortRec.engineReset_fault _ _ _ is]
  · rw [frame]
    exact ⟨mem, patterns, fonts, glyphs, bus, lineA, lineB, powerOns, pending⟩

end Emptied

/-! ## ENGINE_RESET -/

/-- The staging buffer when all jobs but the head leave. -/
theorem stagingAfter_behind {s : State} {j : Job} {rest : List Job} (hj : s.jobs = j :: rest)
    (apart : s.jobs.Pairwise (fun i j => ¬ i.number = j.number)) :
    stagingAfter s rest = if j.isLoad = true ∨ s.feeding = none then s.staging else [] := by
  rw [hj] at apart
  have others := (List.pairwise_cons.mp apart).1
  rw [stagingAfter_eq]
  cases fed : s.feeding with
  | none => exact (if_pos (.inr rfl)).symm
  | some f =>
    have first := fed
    unfold State.feeding at first
    rw [hj] at first
    dsimp only
    cases load : j.isLoad with
    | true =>
      rw [List.find?_cons_of_pos load] at first
      obtain rfl : j = f := Option.some.inj first
      rw [if_neg fun ⟨i, hi, e⟩ => others i hi e.symm]
      exact (if_pos (.inl rfl)).symm
    | false =>
      rw [List.find?_cons_of_neg (by simp [load])] at first
      have gone : ∃ i ∈ rest, i.number = f.number := ⟨f, List.mem_of_find?_eq_some first, rfl⟩
      rw [if_pos gone, if_neg (by simp)]

/-- The ref count of a plane when all jobs but the head leave. -/
theorem State.depart_behind_plane {s : State} {j : Job} {rest : List Job} (hj : s.jobs = j :: rest) (planes : PlaneLaw s)
    {h : Nat} (low : 1 ≤ h) (high : h ≤ 24) :
    (s.depart rest [j] true).plane h = { s.plane h with refCount := if j.names h then 1 else 0 } := by
  obtain ⟨-, count, -⟩ := planes.1 h low high
  have left : (s.plane h).refCount - (rest.filter (fun j => j.names h)).length = if j.names h then 1 else 0 := by
    rw [count, hj, List.filter_cons]
    split
    · rw [List.length_cons]
      omega
    · exact Nat.sub_self _
  rw [s.depart_plane, Bool.not_true, Bool.and_false, if_neg nofun, left]

/-- Settles O5: the reset takes effect once no job is left, or stands behind the job that has a row or an extent to finish. -/
theorem engineResetTakesEffect : Obligations.EngineResetTakesEffect := by
  unfold Obligations.EngineResetTakesEffect
  intro s engine ports due
  obtain ⟨⟨-, -, -, -, apart, -⟩, planes⟩ := engine
  have exec_begin : exec .engineReset s = .next s.beginEngineReset.transmit := by
    show execEngineReset s = _
    unfold execEngineReset
    rw [due]
  refine ⟨fun atOnce => ?_, fun j first run waits => ?_⟩
  · by_cases still : ∀ j ∈ s.jobs.head?, j.running = false
    · refine ⟨(s.depart s.jobs [] true).finishEngineReset, ?_,
        (Emptied.depart s s.jobs []).engineResetDone (State.depart_jobs ..) planes ports⟩
      rw [exec_begin]
      unfold State.beginEngineReset
      dsimp only
      rw [State.flushWaiting_still still, State.depart_jobs]
    · obtain ⟨j, first, run⟩ : ∃ j ∈ s.jobs.head?, j.running = true := by simpa using still
      obtain ⟨rest, hj⟩ : ∃ rest, s.jobs = j :: rest := List.head?_eq_some_iff.mp first
      have stops : s.stopsAtOnce j = true := (atOnce j first).resolve_left (by rw [run]; nofun)
      refine ⟨((s.depart rest [j] true).stopHeadForReset j).finishEngineReset, ?_,
        ((Emptied.depart s rest [j]).trans (.stopHeadForReset _ j)).engineResetDone ?_ planes ports⟩
      · rw [exec_begin]
        unfold State.beginEngineReset
        dsimp only
        rw [State.flushWaiting_running hj run, State.depart_jobs]
        dsimp only
        rw [State.depart_stopsAtOnce, if_pos stops]
      · rw [State.stopHeadForReset_jobs, State.depart_jobs]
        rfl
  · obtain ⟨rest, hj⟩ := List.head?_eq_some_iff.mp first
    refine ⟨(s.depart rest [j] true).occupy .engineStopping, ?_, ?_⟩
    · rw [exec_begin]
      unfold State.beginEngineReset
      dsimp only
      rw [State.flushWaiting_running hj run, State.depart_jobs]
      dsimp only
      rw [State.depart_stopsAtOnce, if_neg (by rw [waits]; nofun)]
    · obtain ⟨-, notices, freeList, link, -, -, -, -, mem, patterns, fonts, glyphs, bus, lineA, lineB, powerOns, pending⟩ :=
        Emptied.depart s rest [j]
      have ports : (s.depart rest [j] true).portA = s.portA ∧ (s.depart rest [j] true).portB = s.portB ∧
          (s.depart rest [j] true).writeHold = s.writeHold ∧ (s.depart rest [j] true).layoutLock = s.layoutLock ∧
          (s.depart rest [j] true).dataTimer = s.dataTimer ∧ (s.depart rest [j] true).jobCounter = s.jobCounter := by
        rw [s.depart_frame]
        exact ⟨rfl, rfl, rfl, rfl, rfl, rfl⟩
      obtain ⟨portA, portB, hold, lock, timer, counter⟩ := ports
      exact ⟨s.depart_jobs rest [j] true, congrArg (fun l : Link => { l with work := some .engineStopping }) link, notices, portA, portB,
        bus, mem, freeList, hold, lock, timer, patterns, counter, fonts, glyphs, lineA, lineB, powerOns, pending,
        (s.depart_staging rest [j] true).trans (stagingAfter_behind hj apart), fun h low high => State.depart_behind_plane hj planes low high⟩

/-! ## The end of a row -/

section Boundary

variable {t : State} {j : Job}

theorem State.stopAtBoundary_cancel {n : Nat} (work : t.link.work = some (.cancel n)) :
    t.stopAtBoundary j = (t.stopHead j).examine.answer { status := .ok, items := itemU8 1 ++ itemU16 n ++ itemU16 n } := by
  unfold State.stopAtBoundary
  rw [work]
  rfl

theorem State.stopAtBoundary_flush {count first last : Nat} (work : t.link.work = some (.flush count first last)) :
    t.stopAtBoundary j =
      (t.stopHead j).answer { status := .ok, items := itemU8 count ++ itemU16 first ++ itemU16 last } := by
  unfold State.stopAtBoundary
  rw [work]
  rfl

theorem State.stopAtBoundary_reset (work : t.link.work = some .engineStopping) :
    t.stopAtBoundary j = (t.stopHeadForReset j).finishEngineReset := by
  unfold State.stopAtBoundary
  rw [work]

/-- A command that ends a row of a job that is to stop there. -/
theorem exec_stops {c : Instr} {s u goesOn : State} {height : Nat} {st : Status}
    (row : exec c s = .next (t.afterRow j height st goesOn).transmit) (pending : t.stopPending = true)
    (stop : t.stopAtBoundary j = u) : exec c s = .next u.transmit := by
  rw [row, State.afterRow_stopped pending, stop]

/-- A job's own row or extent leaves the engine's laws that a reset rests on. -/
theorem PlaneLaw.counted {s : State} {rest : List Job} (h : PlaneLaw s) (hj : s.jobs = j :: rest)
    (jobs : t.jobs = j.nextRow :: rest) (link : t.link = s.link)
    (plane : ∀ h, (t.plane h).state = (s.plane h).state ∧ (t.plane h).refCount = (s.plane h).refCount ∧
      (t.plane h).releaseDue = (s.plane h).releaseDue ∧ ((s.plane h).state = .free → t.plane h = s.plane h)) : PlaneLaw t := by
  refine ⟨fun i low high => ?_, fun q work => ?_⟩
  · obtain ⟨free, count, due⟩ := h.1 i low high
    obtain ⟨state, refs, release, same⟩ := plane i
    rw [state, refs, release]
    refine ⟨fun is => (same is).trans (free is), ?_, due⟩
    rw [count, hj, jobs, List.filter_cons, List.filter_cons]
    show _ = (if j.names i = true then j.nextRow :: _ else _).length
    split <;> rfl
  · rw [link] at work
    rw [(plane q.handle).1]
    exact h.2 q work

/-- The ENGINE reset that waited for the head's row or extent. -/
theorem State.stopAtBoundary_resetDone {s : State} {rest : List Job} (work : t.link.work = some .engineStopping)
    (engine : EngineLaw s) (hj : s.jobs = j :: rest) (jobs : t.jobs = j.nextRow :: rest) (link : t.link = s.link)
    (planes : PlaneLaw t) (ports : PortsLaw t) : EngineResetDone t (t.stopAtBoundary j.nextRow) := by
  obtain ⟨⟨-, -, -, -, -, -, -, -, alone⟩, -⟩ := engine
  have last : rest = [] := by
    rw [hj] at alone
    exact alone (by rw [← link, work]; rfl)
  rw [State.stopAtBoundary_reset work]
  refine (Emptied.stopHeadForReset t j.nextRow).engineResetDone ?_ planes ports
  rw [State.stopHeadForReset_jobs, jobs]
  exact last

end Boundary

/-- Settles O40: the four kinds differ in what the row draws alone. -/
theorem lastOrStoppedRowEndsTheJob : Obligations.LastOrStoppedRowEndsTheJob := by
  unfold Obligations.LastOrStoppedRowEndsTheJob
  intro s j rest c rows st drawn hj active kinds
  obtain ⟨same, goesOn, row⟩ : drawn = { s with mem := drawn.mem, staging := drawn.staging } ∧ ∃ goesOn : State,
      exec c s = .next (State.afterRow { drawn with jobs := j.nextRow :: rest } j.nextRow rows st goesOn).transmit := by
    rcases kinds with ⟨d, hb, rfl, rfl, rfl, rfl⟩ | ⟨d, src, sx, sy, hb, rfl, rfl, rfl, rfl⟩ |
      ⟨h, r, fn, total, got, hb, rfl, rfl, rfl, rfl⟩ | ⟨h, font, pen, base, ink, fn, codes, hold, hb, rfl, held, rfl, rfl, rfl⟩
    · exact ⟨rfl, _, exec_fillRowEnd hj active hb⟩
    · exact ⟨rfl, _, exec_blockRowEnd hj active hb⟩
    · exact ⟨rfl, _, exec_loadRowEnd hj active hb⟩
    · exact ⟨rfl, _, exec_textRowEnd hj active hb held⟩
  have link : drawn.link = s.link := by rw [same]
  refine ⟨fun quiet last => ?_, fun n work => ?_, fun count first last work => ?_, fun work engine ports => ?_⟩
  · have quiet : State.stopPending { drawn with jobs := j.nextRow :: rest } = false := by
      unfold State.stopPending at quiet ⊢
      rw [link]
      exact quiet
    rw [row, State.afterRow_last quiet last]
    rfl
  · have work : drawn.link.work = some (.cancel n) := link ▸ work
    exact exec_stops row (by simp [State.stopPending, work]) (State.stopAtBoundary_cancel work)
  · have work : drawn.link.work = some (.flush count first last) := link ▸ work
    exact exec_stops row (by simp [State.stopPending, work]) (State.stopAtBoundary_flush work)
  · have work : drawn.link.work = some .engineStopping := link ▸ work
    have planes : PlaneLaw { drawn with jobs := j.nextRow :: rest } := by
      refine PlaneLaw.counted engine.2 hj rfl link fun h => ?_
      have plane : State.plane { drawn with jobs := j.nextRow :: rest } h = s.plane h := by
        rw [same]
        rfl
      rw [plane]
      exact ⟨rfl, rfl, rfl, fun _ => rfl⟩
    have ports : PortsLaw { drawn with jobs := j.nextRow :: rest } := by
      rw [same]
      exact ports
    exact ⟨_, exec_stops row (by simp [State.stopPending, work]) rfl,
      State.stopAtBoundary_resetDone work engine hj rfl link planes ports⟩

end Sys2Proof.Machine
end

section
/-! DATA (O36). -/

namespace Sys2Proof.Machine

set_option Elab.async false

section Data

variable {s u : State} {tag : Byte} {body : List Byte} {before after : List Slot}

theorem NextRequest.exec_data (hn : NextRequest s kindData tag body before after)
    (hu : dataRequest body (s.taken kindData tag body before after) = u) : exec .data s = .next u.transmit := by
  subst hu
  exact congrArg Host.Outcome.next (hn.serve dataRequest)

/-- DATA for the feeding LOAD, by the first check that fails. -/
theorem dataRequest_feeding {t : State} {j : Job} (long : 3 ≤ body.length) (hf : t.feeding = some j) :
    dataRequest body t =
      if ¬ fieldU16 body 0 = j.number then
        t.answer { status := .notExpected, items := itemU16 (fieldU16 body 0) ++ itemU16 j.number }
      else if j.body.bytesWanted < body.length - 2 then
        t.answer { status := .tooLong, items := itemU16 (fieldU16 body 0) ++ itemU32 j.body.bytesWanted }
      else if t.stagingFree < body.length - 2 then
        t.answer { status := .wait, items := itemU16 (fieldU16 body 0) ++ itemU16 t.stagingFree }
      else
        (t.stage (body.drop 2)).afterStaging.answer
          { status := .ok,
            items := itemU16 (fieldU16 body 0) ++ itemU32 (j.body.bytesWanted - (body.length - 2)) ++
              itemU16 (t.stagingFree - (body.length - 2)) } := by
  unfold dataRequest
  dsimp only
  rw [if_neg (Nat.not_lt.mpr long), hf]

/-- The bytes staged, and what a LOAD at the head that waits for them then does. -/
theorem State.stage_load {bytes : List Byte} {front back : List Job} {j : Job} {h : Nat} {r : Rect} {fn : BitVec 4}
    {total got : Nat} (hs : s.jobs = front ++ j :: back) (others : ∀ i ∈ front, i.isLoad = false)
    (hb : j.body = .load h r fn total got) :
    s.stage bytes = { s with
      staging := s.staging ++ bytes
      jobs := front ++ { j with body := .load h r fn total (got + bytes.length) } :: back } := by
  unfold State.stage
  rw [hs, updateFirst_split others (by simp [Job.isLoad, hb])]
  have received : j.received bytes.length = { j with body := .load h r fn total (got + bytes.length) } := by
    unfold Job.received
    rw [hb]
  rw [received]

theorem State.afterStaging_other (other : ∀ j ∈ s.jobs.head?, ¬ j.state = .awaitingData) : s.afterStaging = s := by
  unfold State.afterStaging
  split
  · rfl
  · next j rest hj =>
    have is := other j (by rw [hj]; rfl)
    cases hs : j.state with
    | awaitingData => exact absurd hs is
    | queued | held | active => rfl

theorem State.afterStaging_awaiting {j : Job} {rest : List Job} (hj : s.jobs = j :: rest) (awaits : j.state = .awaitingData) :
    s.afterStaging =
      if s.rowBytesOf j ≤ s.staging.length then
        { s with dataTimer := .stopped, jobs := { j with state := .active } :: rest }
      else { s with dataTimer := .running 500 } := by
  unfold State.afterStaging
  rw [hj]
  simp only [awaits]
  rfl

/-- The acceptance as a whole. -/
theorem State.staged_load {bytes : List Byte} {front back : List Job} {j : Job} {h : Nat} {r : Rect} {fn : BitVec 4}
    {total got : Nat} (hs : s.jobs = front ++ j :: back) (others : ∀ i ∈ front, i.isLoad = false)
    (hb : j.body = .load h r fn total got) (waits : ∀ j ∈ s.jobs, j.state = .awaitingData → j.isLoad = true) :
    (let enough := r.w * (s.plane h).depth / 8 ≤ s.staging.length + bytes.length
    let starving := front = [] ∧ j.state = .awaitingData
    (s.stage bytes).afterStaging = { s with
      staging := s.staging ++ bytes
      jobs := front ++
        { j with
          body := .load h r fn total (got + bytes.length)
          state := if starving ∧ enough then .active else j.state } :: back
      dataTimer := if starving then (if enough then .stopped else .running 500) else s.dataTimer }) := by
  dsimp only
  rw [State.stage_load hs others hb]
  by_cases starving : front = [] ∧ j.state = .awaitingData
  · obtain ⟨rfl, awaits⟩ := starving
    rw [State.afterStaging_awaiting (j := { j with body := .load h r fn total (got + bytes.length) }) (rest := back) rfl awaits]
    by_cases enough : r.w * (s.plane h).depth / 8 ≤ s.staging.length + bytes.length
    · refine (if_pos (List.length_append ▸ enough)).trans ?_
      simp only [awaits, enough, and_self, if_true]
      rfl
    · refine (if_neg (List.length_append ▸ enough)).trans ?_
      simp only [awaits, enough, and_self, and_false, if_true, if_false]
  · rw [State.afterStaging_other, if_neg fun is => starving is.1, if_neg starving]
    intro i hi
    cases front with
    | nil =>
      obtain rfl : _ = i := Option.some.inj hi
      exact fun awaits => starving ⟨rfl, awaits⟩
    | cons k front =>
      obtain rfl : k = i := Option.some.inj hi
      intro awaits
      have load := waits k (by rw [hs]; simp) awaits
      rw [others k List.mem_cons_self] at load
      cases load

end Data

/-- Settles O36: the feeding LOAD is the first in the queue, and the checks then follow in their order. -/
theorem dataIsStagedOrRefused : Obligations.DataIsStagedOrRefused := by
  unfold Obligations.DataIsStagedOrRefused
  refine ⟨fun s tag body before after hn short => hn.exec_data ?_, fun s tag hi lo d more before after hn law => ⟨fun none => hn.exec_data ?_,
    fun front j back h r fn total got hs hb others => ?_⟩⟩
  · unfold dataRequest
    rw [if_pos short]
    exact hn.refuse .badLength
  · have absent : State.feeding (s.taken kindData tag (hi :: lo :: d :: more) before after) = .none :=
      List.find?_eq_none.mpr fun j hj load => by rw [none j hj] at load; cases load
    unfold dataRequest
    dsimp only
    rw [if_neg (by simp), absent]
    dsimp only
    rw [show fieldU16 (hi :: lo :: d :: more) 0 = hi.toNat * 256 + lo.toNat from rfl, itemU16_joined]
    exact hn.answerAtOnce _
  · have feeding : State.feeding (s.taken kindData tag (hi :: lo :: d :: more) before after) = some j := by
      show s.jobs.find? _ = _
      rw [hs]
      exact find?_split others (by simp [Job.isLoad, hb])
    have rule := dataRequest_feeding (body := hi :: lo :: d :: more) (by simp) feeding
    rw [show fieldU16 (hi :: lo :: d :: more) 0 = hi.toNat * 256 + lo.toNat from rfl, itemU16_joined, hb] at rule
    have free : State.stagingFree (s.taken kindData tag (hi :: lo :: d :: more) before after) = 4096 - s.staging.length := rfl
    have count : (hi :: lo :: d :: more).length - 2 = (d :: more).length := rfl
    have wanted : JobBody.bytesWanted (.load h r fn total got) = total - got := rfl
    rw [free, count, wanted] at rule
    obtain ⟨-, -, -, waits, -⟩ := law
    refine ⟨fun other => hn.exec_data ?_, fun own long => hn.exec_data ?_, fun own fits full => hn.exec_data ?_,
      fun own fits room => hn.exec_data ?_⟩
    · rw [rule, if_pos other]
      exact hn.answerAtOnce _
    · rw [rule, if_neg (not_not_intro own), if_pos long]
      exact hn.answerAtOnce _
    · rw [rule, if_neg (not_not_intro own), if_neg (Nat.not_lt.mpr fits), if_pos full]
      exact hn.answerAtOnce _
    · rw [rule, if_neg (not_not_intro own), if_neg (Nat.not_lt.mpr fits), if_neg (Nat.not_lt.mpr room)]
      have staged := State.staged_load (s := s.taken kindData tag (hi :: lo :: d :: more) before after)
        (bytes := d :: more) hs others hb waits
      dsimp only at staged
      show (State.stage _ (d :: more)).afterStaging.answer _ = _
      rw [staged]
      exact hn.answer _ rfl

end Sys2Proof.Machine
end

section
/-! Pixels in their bytes, and SET_PATTERN (O21). -/

namespace Sys2Proof.Machine

set_option Elab.async false

/-! ## Packing (R1) -/

theorem packByte_deep_toNat (f : Nat → Px) :
    (packByte 2 f).toNat = 64 * (f 0).toNat + 16 * (f 1).toNat + 4 * (f 2).toNat + (f 3).toNat := by
  have b1 := (f 1).isLt
  have b2 := (f 2).isLt
  have b3 := (f 3).isLt
  show (f 0 ++ f 1 ++ f 2 ++ f 3 : BitVec 8).toNat = _
  rw [BitVec.toNat_append, BitVec.toNat_append, BitVec.toNat_append, ← Nat.shiftLeft_add_eq_or_of_lt b1,
    ← Nat.shiftLeft_add_eq_or_of_lt b2, ← Nat.shiftLeft_add_eq_or_of_lt b3]
  simp only [Nat.shiftLeft_eq]
  omega

theorem pixelOfByte_deep (b : Byte) (i : Nat) : (pixelOfByte 2 b i).toNat = b.toNat / 4 ^ (3 - i) % 4 := rfl

theorem pixelOfByte_packByte_deep (f : Nat → Px) {i : Nat} (hi : i < 4) : pixelOfByte 2 (packByte 2 f) i = f i := by
  have b0 := (f 0).isLt
  have b1 := (f 1).isLt
  have b2 := (f 2).isLt
  have b3 := (f 3).isLt
  refine BitVec.eq_of_toNat_eq ?_
  rw [pixelOfByte_deep, packByte_deep_toNat]
  interval_cases i <;> omega

theorem packByte_pixelOfByte (b : Byte) : packByte 2 (pixelOfByte 2 b) = b := by
  have hb := b.isLt
  refine BitVec.eq_of_toNat_eq ?_
  simp only [packByte_deep_toNat, pixelOfByte_deep]
  omega

theorem packByte_flat_toNat {depth : Nat} (flat : ¬ depth = 2) (f : Nat → Px) :
    (packByte depth f).toNat =
      128 * ((f 0).toNat % 2) + 64 * ((f 1).toNat % 2) + 32 * ((f 2).toNat % 2) + 16 * ((f 3).toNat % 2) +
        8 * ((f 4).toNat % 2) + 4 * ((f 5).toNat % 2) + 2 * ((f 6).toNat % 2) + (f 7).toNat % 2 := by
  unfold packByte
  rw [if_neg flat, show List.range 8 = [0, 1, 2, 3, 4, 5, 6, 7] from rfl, BitVec.toNat_ofNat]
  simp only [List.foldl_cons, List.foldl_nil]
  omega

theorem pixelOfByte_packByte_flat {depth : Nat} (flat : ¬ depth = 2) (f : Nat → Px) {i : Nat} (hi : i < 8)
    (bit : (f i).toNat ≤ 1) : pixelOfByte depth (packByte depth f) i = f i := by
  have pixel : (pixelOfByte depth (packByte depth f) i).toNat = (packByte depth f).toNat / 2 ^ (7 - i) % 2 := by
    unfold pixelOfByte
    rw [if_neg flat, BitVec.toNat_ofNat]
    omega
  refine BitVec.eq_of_toNat_eq (pixel.trans ?_)
  rw [packByte_flat_toNat flat]
  interval_cases i <;> omega

/-- A pixel of a byte packed from pixels is the pixel packed there, where the depth has room for it. -/
theorem pixelOfByte_packByte {depth : Nat} (f : Nat → Px) {i : Nat} (hi : i < pixelsPerByte depth)
    (room : ¬ depth = 2 → (f i).toNat ≤ 1) : pixelOfByte depth (packByte depth f) i = f i := by
  unfold pixelsPerByte at hi
  by_cases deep : depth = 2
  · rw [if_pos deep] at hi
    rw [deep]
    exact pixelOfByte_packByte_deep f hi
  · rw [if_neg deep] at hi
    exact pixelOfByte_packByte_flat deep f hi (room deep)

/-! ## Patterns (R32, R33) -/

theorem patternOfBytes_getElem? (bytes : List Byte) {i : Nat} (hi : i < 64) :
    ((patternOfBytes bytes)[i]?).getD 0 = pixelOfByte 2 (bytes.getD (i / 4) 0) (i % 4) := by
  have entry : (patternOfBytes bytes)[i]? = some (pixelOfByte 2 (bytes.getD (i / 4) 0) (i % 4)) := by
    rw [Vector.getElem?_eq_getElem hi]
    simp [patternOfBytes]
  rw [entry]
  rfl

theorem patternPixel_patternOfBytes (bytes : List Byte) (x y : Nat) :
    patternPixel (patternOfBytes bytes) x y = pixelOfByte 2 (bytes.getD (2 * (y % 8) + x % 8 / 4) 0) (x % 4) := by
  unfold patternPixel
  rw [patternOfBytes_getElem? bytes (by omega)]
  have byte : (y % 8 * 8 + x % 8) / 4 = 2 * (y % 8) + x % 8 / 4 := by omega
  have column : (y % 8 * 8 + x % 8) % 4 = x % 4 := by omega
  rw [byte, column]

/-- The bytes of a pattern are those that carried it. -/
theorem patternBytes_patternOfBytes {bytes : List Byte} (h : bytes.length = 16) : patternBytes (patternOfBytes bytes) = bytes := by
  refine List.ext_getElem (by simp [patternBytes, h]) fun i hi hb => ?_
  have small : i < 16 := h ▸ hb
  have packed : (patternBytes (patternOfBytes bytes))[i] =
      packByte 2 (fun k => ((patternOfBytes bytes)[4 * i + k]?).getD 0) := by
    simp [patternBytes]
  have pixels (k : Nat) (hk : k < 4) :
      ((patternOfBytes bytes)[4 * i + k]?).getD 0 = pixelOfByte 2 bytes[i] k := by
    rw [patternOfBytes_getElem? bytes (by omega)]
    have byte : (4 * i + k) / 4 = i := by omega
    have column : (4 * i + k) % 4 = k := by omega
    rw [byte, column, List.getD_eq_getElem _ _ hb]
  refine packed.trans (BitVec.eq_of_toNat_eq ?_)
  have back := congrArg BitVec.toNat (packByte_pixelOfByte bytes[i])
  rw [packByte_deep_toNat] at back
  rw [packByte_deep_toNat, pixels 0 (by omega), pixels 1 (by omega), pixels 2 (by omega), pixels 3 (by omega)]
  exact back

theorem NextRequest.exec_setPattern {s u : State} {tag b : Byte} {bytes : List Byte} {before after : List Slot}
    (hn : NextRequest s kindSetPattern tag (b :: bytes) before after) (full : bytes.length = 16)
    (hu : setPattern (b :: bytes) (s.taken kindSetPattern tag (b :: bytes) before after) = u) :
    exec .setPattern s = .next u.transmit := by
  subst hu
  exact congrArg Host.Outcome.next (hn.serveFixed 17 (by rw [List.length_cons, full]) setPattern)

theorem State.patternEntry_set (s : State) (p : Pattern) {i k : Nat} (hk : k ≤ 15) :
    State.patternEntry { s with patterns := s.patterns.setIfInBounds k p } i = if i = k then p else s.patternEntry i := by
  unfold State.patternEntry
  dsimp only
  rw [Vector.getElem?_setIfInBounds]
  by_cases e : k = i
  · rw [if_pos e, if_pos e.symm, if_pos (by omega)]
    rfl
  · rw [if_neg e, if_neg fun is => e is.symm]

/-- Settles O21: the entry set is the pattern of the bytes, read back pixel by pixel and byte by byte. -/
theorem setPatternReplacesTheEntry : Obligations.SetPatternReplacesTheEntry := by
  unfold Obligations.SetPatternReplacesTheEntry
  intro s tag b bytes before after hn full
  refine ⟨fun low => ⟨{ s with patterns := s.patterns.setIfInBounds b.toNat (patternOfBytes bytes) }, hn.exec_setPattern full ?_,
    rfl, fun i _ other => ?_, fun x y => ?_, ?_⟩, fun high => hn.exec_setPattern full ?_⟩
  · unfold setPattern
    refine (if_pos low).trans ?_
    rw [show fieldU8 (b :: bytes) 0 = b.toNat from rfl, itemU8_toNat]
    exact hn.answer _ rfl
  · rw [State.patternEntry_set _ _ low, if_neg other]
  · rw [State.patternEntry_set _ _ low, if_pos rfl]
    exact patternPixel_patternOfBytes bytes x y
  · rw [State.patternEntry_set _ _ low, if_pos rfl]
    exact patternBytes_patternOfBytes full
  · unfold setPattern
    exact (if_neg (Nat.not_le.mpr high)).trans (hn.refuse .badValue)

end Sys2Proof.Machine
end

section
/-! The reports (O20). -/

namespace Sys2Proof.Machine

set_option Elab.async false

section Reports

variable {s u : State} {tag b : Byte} {before after : List Slot}

theorem NextRequest.exec_planeInfo (hn : NextRequest s kindPlaneInfo tag [b] before after)
    (hu : planeInfo [b] (s.taken kindPlaneInfo tag [b] before after) = u) : exec .planeInfo s = .next u.transmit := by
  subst hu
  exact congrArg Host.Outcome.next (hn.serveFixed 1 rfl planeInfo)

theorem NextRequest.exec_storeInfo (hn : NextRequest s kindStoreInfo tag [] before after)
    (hu : storeInfo [] (s.taken kindStoreInfo tag [] before after) = u) : exec .storeInfo s = .next u.transmit := by
  subst hu
  exact congrArg Host.Outcome.next (hn.serveFixed 0 rfl storeInfo)

theorem NextRequest.exec_fontInfo (hn : NextRequest s kindFontInfo tag [b] before after)
    (hu : fontInfo [b] (s.taken kindFontInfo tag [b] before after) = u) : exec .fontInfo s = .next u.transmit := by
  subst hu
  exact congrArg Host.Outcome.next (hn.serveFixed 1 rfl fontInfo)

theorem NextRequest.exec_getPattern (hn : NextRequest s kindGetPattern tag [b] before after)
    (hu : getPattern [b] (s.taken kindGetPattern tag [b] before after) = u) : exec .getPattern s = .next u.transmit := by
  subst hu
  exact congrArg Host.Outcome.next (hn.serveFixed 1 rfl getPattern)

theorem NextRequest.exec_panelInfo (hn : NextRequest s kindPanelInfo tag [b] before after)
    (hu : panelInfo [b] (s.taken kindPanelInfo tag [b] before after) = u) : exec .panelInfo s = .next u.transmit := by
  subst hu
  exact congrArg Host.Outcome.next (hn.serveFixed 1 rfl panelInfo)

end Reports

/-- A byte of flags, as the number its bits spell. -/
theorem byteOfBits_eq : ∀ a b c d e : Bool,
    [byteOfBits a b c d e] =
      itemU8 ((if a = true then 1 else 0) + (if b = true then 2 else 0) + (if c = true then 4 else 0) +
        (if d = true then 8 else 0) + (if e = true then 16 else 0)) := by
  decide

theorem Plane.bindingsByte_eq (p : Plane) :
    [p.bindingsByte] = itemU8 ((if p.boundA = true then 1 else 0) + (if p.boundB = true then 2 else 0)) :=
  byteOfBits_eq ..

theorem PortState.setItems_eq (st : PortState) :
    st.setItems = match st.refreshSet with
      | none => itemU8 0 ++ itemU8 0
      | some m => itemU8 m.1.waveform.code ++ itemU8 m.1.rects.length ++ m.1.rects.flatMap itemRect := by
  cases st with
  | streaming | settling =>
    unfold PortState.setItems rectItems PortState.refreshSet
    dsimp only
    rw [List.append_assoc]
  | unconfigured | idle | pending | fault => rfl

theorem State.fallbackPresent_iff (s : State) (i : Nat) :
    s.fallbackPresent i = true ↔
      (s.font i).state = .defined ∧ ∃ g ∈ s.glyphs, g.font = i ∧ g.code = (s.font i).fallback := by
  unfold State.fallbackPresent findGlyph
  rw [Bool.and_eq_true, decide_eq_true_iff, List.find?_isSome]
  simp

/-- Settles O20: each report's rule, its items as the tables write them. -/
theorem reportsGiveTheRecordAndChangeNothing : Obligations.ReportsGiveTheRecordAndChangeNothing := by
  unfold Obligations.ReportsGiveTheRecordAndChangeNothing
  intro s tag b before after
  have byte : fieldU8 [b] 0 = b.toNat := rfl
  refine ⟨fun hn => ⟨fun low high => hn.exec_planeInfo ?_, fun out => hn.exec_planeInfo ?_⟩, fun hn => hn.exec_storeInfo ?_,
    fun hn => ⟨fun low => hn.exec_fontInfo ?_, fun out => hn.exec_fontInfo ?_⟩,
    fun hn => ⟨fun low => hn.exec_getPattern ?_, fun out => hn.exec_getPattern ?_⟩,
    fun hn => ⟨fun p named => hn.exec_panelInfo ?_, fun out => hn.exec_panelInfo ?_⟩⟩
  · unfold planeInfo
    refine (if_pos ⟨low, high⟩).trans ?_
    unfold planeItems
    rw [byte, itemU8_toNat, Plane.bindingsByte_eq]
    exact hn.answerAtOnce _
  · unfold planeInfo
    refine (if_neg fun inTable => ?_).trans (hn.refuse .noSuchPlane)
    have high : b.toNat ≤ 24 := inTable.2
    have low : 1 ≤ b.toNat := inTable.1
    omega
  · exact hn.answerAtOnce _
  · unfold fontInfo
    refine (if_pos low).trans ?_
    have present : itemFlag (State.fallbackPresent s b.toNat) =
        itemU8 (if (s.font b.toNat).state = .defined ∧
          ∃ g ∈ s.glyphs, g.font = b.toNat ∧ g.code = (s.font b.toNat).fallback then 1 else 0) :=
      congrArg itemU8 (if_congr (s.fallbackPresent_iff b.toNat) rfl rfl)
    unfold State.fontItems
    rw [byte, ← present, itemU8_toNat]
    exact hn.answerAtOnce _
  · unfold fontInfo
    exact (if_neg (Nat.not_le.mpr out)).trans (hn.refuse .badValue)
  · unfold getPattern
    refine (if_pos low).trans ?_
    rw [byte, itemU8_toNat]
    exact hn.answerAtOnce _
  · unfold getPattern
    exact (if_neg (Nat.not_le.mpr out)).trans (hn.refuse .badValue)
  · have code : portOfCode b.toNat = some p := by
      refine portOfCode_eq_some (named.imp (fun ⟨n, is⟩ => ⟨?_, is⟩) (fun ⟨n, is⟩ => ⟨?_, is⟩)) <;>
        exact BitVec.eq_of_toNat_eq n
    unfold panelInfo
    rw [byte, code]
    dsimp only
    unfold PortRec.items PortRec.flagsByte rectItems
    rw [itemU8_portCode code, byteOfBits_eq, PortState.setItems_eq, State.taken_port, List.append_assoc _ (itemU8 _)]
    simp only [← List.append_assoc]
    exact hn.answerAtOnce _
  · unfold panelInfo
    rw [byte, portOfCode_eq_none out]
    exact hn.refuse .badValue

end Sys2Proof.Machine
end

section
/-! The refresh cycle: the arbiter's grants (O49), the commands of a STREAMING port (O50, O51), its busy line (O52) and its
timers (O53). -/

namespace Sys2Proof.Machine

set_option Elab.async false

section Ports

variable {s t : State} {p o : Port} {u r : PortRec}

/-! ## One port's record after another -/

theorem State.setPort_pushNotice (s : State) (p : Port) (u : PortRec) (c : NoticeContent) :
    (s.setPort p u).pushNotice c = State.setPort { s with notices := s.notices.push c } p u := by
  cases p <;> rfl

theorem PortRec.goesOn_iff : r.goesOn = true ↔ r.again = true ∧ (¬ r.damage = [] ∨ r.whole = true ∨ r.force = true) := by
  unfold PortRec.goesOn PortRec.damagePresent
  simp only [Bool.and_eq_true, Bool.or_eq_true, Bool.not_eq_true', List.isEmpty_eq_false_iff, ne_eq]
  rw [or_assoc, or_left_comm]

theorem ghostAfter_eq (w : Waveform) (count : Nat) : ghostAfter w count = if w = .partialWave then count + 1 else 0 := by
  cases w <;> rfl

/-! ## The busy line -/

theorem State.endAbandoned_again (again : (s.port p).again = true) :
    s.endAbandoned p =
      State.arbitrate (s.setPort p { s.port p with state := .pending .bus, busyTimer := .stopped, again := false }) := by
  unfold State.endAbandoned
  dsimp only
  rw [if_pos again, State.setPort_claimBus]

theorem State.endAbandoned_idle (quiet : (s.port p).again = false) :
    s.endAbandoned p = s.setPort p
      { s.port p with
        state := .idle, busyTimer := .stopped
        holdOffTimer := if (s.port p).mode = .auto then .running (s.port p).holdOff else .stopped } := by
  unfold State.endAbandoned PortRec.abandonedIdle
  dsimp only
  rw [if_neg (by rw [quiet]; nofun), PortRec.freshHoldOff_eq]
  rfl

theorem State.completeRefresh_eq (s : State) (p : Port) (set : RefreshSet) :
    s.completeRefresh p set =
      if (s.port p).goesOn = true then
        State.arbitrate (State.setPort
          { s with notices := s.notices.push (refreshEnd p (s.port p) set) } p
          { (s.port p).completed set with state := .pending .bus })
      else State.setPort { s with notices := s.notices.push (refreshEnd p (s.port p) set) } p ((s.port p).completed set) := by
  unfold State.completeRefresh
  dsimp only
  rw [State.setPort_pushNotice, State.setPort_claimBus]

theorem State.port_setBusyLine (s : State) (p o : Port) (v : Bool) : (s.setBusyLine p v).port o = s.port o := by
  cases p <;> cases o <;> rfl

end Ports

/-- Settles O52: the fall's outcome by the state of the port, after the level. -/
theorem busyLineEdges : Obligations.BusyLineEdges := by
  unfold Obligations.BusyLineEdges
  intro s p
  have level (v : Bool) : (if p = .a then { s with busyLineA := v } else { s with busyLineB := v }) = s.setBusyLine p v := by
    cases p <;> rfl
  dsimp only
  rw [level, level]
  have port := s.port_setBusyLine p p false
  have fall (high : s.busyLine p = true) {u : State} (hu : (s.setBusyLine p false).lineFallen p = u) :
      exec (.busyLineFall p) s = .next u.transmit := by
    show execBusyLineFall p s = _
    unfold execBusyLineFall
    rw [if_pos high, hu]
  unfold State.lineFallen at fall
  rw [port] at fall
  refine ⟨rfl, fun low => ?_, fun high => ⟨fun set is => ⟨fun more => fall high ?_, fun done => fall high ?_⟩,
    fun set is => ⟨fun again => fall high ?_, fun quiet => fall high ?_⟩, fun is => fall high ?_, fun settles waits => fall high ?_⟩⟩
  · show execBusyLineFall p s = _
    unfold execBusyLineFall
    rw [if_neg (by rw [low]; nofun)]
  · rw [is]
    dsimp only
    rw [State.completeRefresh_eq, port, if_pos (PortRec.goesOn_iff.mpr more), ← ghostAfter_eq]
    rfl
  · rw [is]
    dsimp only
    rw [State.completeRefresh_eq, port, if_neg fun more => done (PortRec.goesOn_iff.mp more), ← ghostAfter_eq]
    rfl
  · rw [is]
    dsimp only
    rw [State.endAbandoned_again (by rw [port]; exact again), port]
  · rw [is]
    dsimp only
    rw [State.endAbandoned_idle (by rw [port]; exact quiet), port]
  · rw [is]
    dsimp only
    rw [State.setPort_claimBus]
  · split
    · next is => exact absurd is (settles _ _)
    · next is => exact absurd is (settles _ _)
    · next is => exact absurd is waits
    · rfl

/-! ## The timers -/

/-- Settles O53: each expiry by the state of the port. -/
theorem portTimersExpire : Obligations.PortTimersExpire := by
  unfold Obligations.PortTimersExpire
  intro s p
  refine ⟨fun runs => ?_, fun runs => ?_⟩
  · have expires {u : State} (hu : s.busyExpired p = u) : exec (.busyTimerExpiry p) s = .next u.transmit := by
      show execBusyTimerExpiry p s = _
      unfold execBusyTimerExpiry
      rw [if_pos runs, hu]
    unfold State.busyExpired at expires
    refine ⟨fun set is => expires ?_, fun is => expires ?_, fun set is => ⟨fun again => expires ?_, fun quiet => expires ?_⟩⟩
    · rw [is]
      exact State.setPort_pushNotice ..
    · rw [is]
      exact State.setPort_pushNotice ..
    · rw [is]
      exact State.endAbandoned_again again
    · rw [is]
      exact State.endAbandoned_idle quiet
  · have stopped : (s.setPort p { s.port p with holdOffTimer := .stopped }).port p =
        { s.port p with holdOffTimer := .stopped } := by
      rw [State.port_setPort, if_pos rfl]
    have expires {u : State} (hu : (s.setPort p { s.port p with holdOffTimer := .stopped }).holdOffExpired p = u) :
        exec (.holdOffTimerExpiry p) s = .next u.transmit := by
      show execHoldOffTimerExpiry p s = _
      unfold execHoldOffTimerExpiry
      rw [if_pos runs, hu]
    unfold State.holdOffExpired at expires
    rw [stopped] at expires
    refine ⟨fun is damaged => expires ?_, fun is none whole => expires ?_, fun ⟨w, is⟩ => expires ?_,
      fun set cmd mark is => expires ?_, fun set mark is => expires ?_⟩
    · simp only [is]
      have present : PortRec.damagePresent { s.port p with state := .idle, holdOffTimer := .stopped } = true := by
        rw [← Bool.not_eq_false, PortRec.damagePresent_eq_false]
        rintro ⟨none, whole⟩
        exact damaged.elim (fun some => some none) fun is => Bool.noConfusion (is.symm.trans whole)
      rw [if_pos present, State.setPort_claimBus]
    · simp only [is]
      rw [if_neg]
      rw [Bool.not_eq_true, PortRec.damagePresent_eq_false]
      exact ⟨none, whole⟩
    · simp only [is]
    · simp only [is]
      exact State.setPort_setPort ..
    · simp only [is]
      exact State.setPort_setPort ..

end Sys2Proof.Machine
end

section
/-! The panel bus: the rows that WINDOW and PIXELS send (O50), the end of STREAMING (O51) and the arbiter's grants (O49). -/

namespace Sys2Proof.Machine

set_option Elab.async false

section Bus

variable {s t : State} {p o : Port} {set : RefreshSet} {cmd : StreamCommand} {mark : Bool}

theorem State.onBus_streaming (owner : s.bus.owner = .port p) (is : (s.port p).state = .streaming set cmd mark) :
    s.onBus = some (p, set, cmd, mark) := by
  unfold State.onBus
  rw [owner]
  dsimp only
  rw [is]

/-! ## WINDOW and PIXELS -/

theorem State.rowBytes_length (s : State) (h depth x w y : Nat) : (s.rowBytes h depth x w y).length = w * depth / 8 := by
  simp [State.rowBytes]

theorem State.pixel_flat {h : Nat} (flat : ¬ (s.plane h).depth = 2) (x y : Nat) : (s.pixel h x y).toNat ≤ 1 := by
  unfold State.pixel pixelOfByte
  dsimp only
  rw [if_neg flat, BitVec.toNat_ofNat]
  omega

/-- Each pixel of a row sent stands at its place. -/
theorem State.rowBytes_pixel {h depth w i : Nat} (known : depth = 1 ∨ depth = 2) (same : (s.plane h).depth = depth)
    (whole : w % 8 = 0) (hi : i < w) (x y : Nat) :
    pixelOfByte depth ((s.rowBytes h depth x w y).getD (i / pixelsPerByte depth) 0) (i % pixelsPerByte depth) =
      s.pixel h (x + i) y := by
  have count : 0 < pixelsPerByte depth := by
    unfold pixelsPerByte
    split <;> omega
  have inRow : i / pixelsPerByte depth < w * depth / 8 := by
    unfold pixelsPerByte
    obtain rfl | rfl := known
    · rw [if_neg (by decide)]
      omega
    · rw [if_pos rfl]
      omega
  have byte : (s.rowBytes h depth x w y).getD (i / pixelsPerByte depth) 0 =
      packByte depth (fun k => s.pixel h (x + i / pixelsPerByte depth * pixelsPerByte depth + k) y) := by
    simp [State.rowBytes, inRow]
  rw [byte]
  have flat (k : Nat) : ¬ depth = 2 → (s.pixel h (x + i / pixelsPerByte depth * pixelsPerByte depth + k) y).toNat ≤ 1 :=
    fun flat => State.pixel_flat (by rw [same]; exact flat) ..
  rw [pixelOfByte_packByte (fun k => s.pixel h (x + i / pixelsPerByte depth * pixelsPerByte depth + k) y) (Nat.mod_lt i count)
    (flat _)]
  have column : x + i / pixelsPerByte depth * pixelsPerByte depth + i % pixelsPerByte depth = x + i := by
    rw [Nat.add_assoc, Nat.div_add_mod']
  rw [column]

theorem exec_window {t : Rect} {rest : List Rect} (owner : s.bus.owner = .port p)
    (is : (s.port p).state = .streaming set (.window t rest) mark) :
    exec .window s = .next (s.setPort p
      { s.port p with state := .streaming set (s.followingCommand (s.port p) (.window t rest) mark) mark }) := by
  show execWindow s = _
  unfold execWindow
  rw [State.onBus_streaming owner is]
  rfl

theorem exec_pixels {t : Rect} {row : Nat} {old : List Byte} {rest : List Rect} (owner : s.bus.owner = .port p)
    (is : (s.port p).state = .streaming set (.pixels t row old rest) mark) :
    exec .pixels s = .next (s.setPort p
      { s.port p with state := .streaming set (s.followingCommand (s.port p) (.pixels t row old rest) mark) mark }) := by
  show execPixels s = _
  unfold execPixels
  rw [State.onBus_streaming owner is]
  rfl

end Bus

/-- Settles O50: what follows each command, and the bytes of a row pixel by pixel. -/
theorem windowAndPixelsFollowTheSet : Obligations.WindowAndPixelsFollowTheSet := by
  unfold Obligations.WindowAndPixelsFollowTheSet
  intro s p set t rest row old owner
  have pixels (y : Nat) : (s.rowBytes (s.port p).boundPlane (s.port p).depth ((s.port p).ox + t.x) t.w
        ((s.port p).oy + t.y + y)).length = t.w * (s.port p).depth / 8 ∧
      (((s.port p).depth = 1 ∨ (s.port p).depth = 2) → (s.plane (s.port p).boundPlane).depth = (s.port p).depth →
        t.w % 8 = 0 → ∀ i, i < t.w →
          pixelOfByte (s.port p).depth
              ((s.rowBytes (s.port p).boundPlane (s.port p).depth ((s.port p).ox + t.x) t.w
                ((s.port p).oy + t.y + y)).getD (i / pixelsPerByte (s.port p).depth) 0)
              (i % pixelsPerByte (s.port p).depth) =
            s.pixel (s.port p).boundPlane ((s.port p).ox + t.x + i) ((s.port p).oy + t.y + y)) :=
    ⟨s.rowBytes_length .., fun known same whole i hi => State.rowBytes_pixel known same whole hi ..⟩
  refine ⟨fun is => ⟨_, exec_window owner is, pixels 0⟩, fun is => ⟨fun more => ?_, fun last => ?_⟩, fun is => ?_, fun is => ?_⟩
  · refine ⟨_, ?_, pixels (row + 1)⟩
    refine (exec_pixels owner is).trans ?_
    unfold State.followingCommand State.pixelsCommand
    simp only [more, if_true]
    rfl
  · refine (exec_pixels owner is).trans ?_
    unfold State.followingCommand nextCommand
    simp only [Nat.not_lt.mpr last, if_false]
    rfl
  · exact exec_window owner is
  · exact exec_pixels owner is

/-! ## UPDATE and ABORT -/

/-- A FULL reset is under way and no port is STREAMING. -/
structure Withdrawn (s : State) : Prop where
  work : s.link.work = some .fullWaiting
  still : s.anyStreaming = false

section Withdrawn

variable {s t : State} {p : Port} {u : PortRec}

theorem Withdrawn.congr (h : Withdrawn s) (ha : t.portA = s.portA) (hb : t.portB = s.portB)
    (work : t.link.work = s.link.work) : Withdrawn t :=
  ⟨work.trans h.work, (anyStreaming_congr ha hb).trans h.still⟩

/-- A FULL reset under way has withdrawn the claims. -/
theorem Withdrawn.arbitrate (h : Withdrawn s) : s.arbitrate = s := by
  refine State.arbitrate_quiet fun _ => State.chosen_quiet ?_ fun p => ?_
  · rw [Bool.eq_false_iff, ne_eq, State.queryWaits_iff, h.work]
    rintro ⟨q, is⟩
    cases is
  · rw [Bool.eq_false_iff, ne_eq, State.claims_iff]
    exact fun claims => claims.2 h.work

theorem Withdrawn.arbitrated (h : Withdrawn s) : Withdrawn s.arbitrate := by
  rw [h.arbitrate]
  exact h

theorem Withdrawn.setPort (h : Withdrawn s) (p : Port) (hu : u.isStreaming = false) : Withdrawn (s.setPort p u) := by
  refine ⟨by cases p <;> exact h.work, anyStreaming_eq_false.mpr fun o => ?_⟩
  rw [State.port_setPort]
  split
  · exact hu
  · exact anyStreaming_eq_false.mp h.still o

theorem Withdrawn.wakeFrom (h : Withdrawn s) (w : Wait) (p : Port) : Withdrawn (s.wakeFrom w p) := by
  unfold State.wakeFrom State.enterBusWait
  split
  · exact h.setPort p rfl
  · exact h

theorem Move.withdrawn (m : Move s t) (h : Withdrawn s) : Withdrawn t := by
  cases m with
  | rest _ same => exact h.congr (by rw [same]) (by rw [same]) (by rw [same])
  | push | unlock | lock | font | freeHold | takeHold => exact h.congr rfl rfl rfl
  | link _ before => exact absurd h.work before.2
  | refCount | due | retire | release =>
    exact h.congr (State.setPlane_portA ..) (State.setPlane_portB ..) (congrArg Link.work (State.setPlane_link ..))
  | port p u step => exact h.setPort p (step.streams.trans (anyStreaming_eq_false.mp h.still p))
  | claim p u claim => exact (h.setPort p (PortRec.isStreaming_of_pending claim.claims)).arbitrated
  | wake w => exact ((h.wakeFrom w .a).wakeFrom w .b).arbitrated

theorem Withdrawn.afterStreaming (h : Withdrawn s) (order : BoundaryOrder) : Withdrawn (s.afterStreaming order) := by
  have rechecked {t : State} (ht : Withdrawn t) : Withdrawn t.recheckHead := (Moves.recheckHead t).keeps Move.withdrawn ht
  have given {t : State} (ht : Withdrawn t) : Withdrawn t.giveBack := 
    Withdrawn.arbitrated (s := { t with bus := { t.bus with owner := .none } }) (ht.congr rfl rfl rfl)
  cases order
  · exact given (rechecked h)
  · exact rechecked (given h)

theorem EngineOnly.fullResetDone (h : EngineOnly s t) : t.fullResetDone = s.fullResetDone := by
  obtain ⟨mem, -, -, -, -, link, lineA, lineB, powerOns, pending⟩ := h.keeps
  unfold State.fullResetDone
  rw [mem, link, lineA, lineB, powerOns, pending]

/-- The end of STREAMING while a FULL reset waits for nothing else. -/
theorem Withdrawn.resets (h : Withdrawn s) (frame : s.link.sending = none) (order : BoundaryOrder) :
    (s.afterStreaming order).tryFullReset = s.fullResetDone := by
  have ended := h.afterStreaming order
  have engine := EngineOnly.afterStreaming s order
  rw [State.tryFullReset_done ended.work ended.still (by rw [engine.link]; exact frame), engine.fullResetDone]

/-- The end of STREAMING while no FULL reset waits for it. -/
theorem State.afterStreaming_goesOn (other : ¬ (s.link.work = some .fullWaiting ∧ s.link.sending = none))
    (order : BoundaryOrder) : (s.afterStreaming order).tryFullReset = s.afterStreaming order := by
  refine if_neg ?_
  rw [(EngineOnly.afterStreaming s order).link]
  exact fun ⟨work, _, frame⟩ => other ⟨work, frame⟩

end Withdrawn

section Streaming

variable {s : State} {p : Port} {set : RefreshSet} {mark : Bool} (owner : s.bus.owner = .port p)
include owner

theorem exec_update (is : (s.port p).state = .streaming set .update mark) (order : BoundaryOrder) :
    exec (.update order) s =
      .next (((s.setPort p ((s.port p).settle set mark)).afterStreaming order).tryFullReset).transmit := by
  show execUpdate order s = _
  unfold execUpdate
  rw [State.onBus_streaming owner is]

theorem exec_abort (is : (s.port p).state = .streaming set .abort mark) (order : BoundaryOrder) :
    exec (.abort order) s =
      .next (((s.setPort p { s.port p with state := .idle }).afterStreaming order).tryFullReset).transmit := by
  show execAbort order s = _
  unfold execAbort
  rw [State.onBus_streaming owner is]

end Streaming

/-- Settles O51: the FULL reset takes effect when the port that ends was all it waited for; else the order of the operand. -/
theorem updateAndAbortEndStreaming : Obligations.UpdateAndAbortEndStreaming := by
  unfold Obligations.UpdateAndAbortEndStreaming
  intro s p set mark owner
  have link (u : PortRec) : (s.setPort p u).link = s.link := State.setPort_link ..
  have same (u : PortRec) : (s.setPort p u).fullResetDone = s.fullResetDone :=
    (PortsOnly.setPort s p u).engine.fullResetDone
  refine ⟨fun goesOn => ?_, fun ⟨work, frame⟩ others order => ?_⟩
  · have continues (u : PortRec) (order : BoundaryOrder) := State.afterStreaming_goesOn (s := s.setPort p u)
      (by rw [link]; exact goesOn) order
    refine ⟨fun is => ⟨?_, ?_⟩, fun is => ⟨?_, ?_⟩⟩
    · rw [exec_update owner is, continues]
      rfl
    · rw [exec_update owner is, continues]
      rfl
    · rw [exec_abort owner is, continues]
      rfl
    · rw [exec_abort owner is, continues]
      rfl
  · have withdrawn {u : PortRec} (hu : u.isStreaming = false) : Withdrawn (s.setPort p u) := by
      refine ⟨by rw [link]; exact work, anyStreaming_eq_false.mpr fun o => ?_⟩
      rw [State.port_setPort]
      split
      · exact hu
      · next other => exact others o other
    refine ⟨fun is => ?_, fun is => ?_⟩
    · rw [exec_update owner is, (withdrawn rfl).resets (by rw [link]; exact frame), same]
    · rw [exec_abort owner is, (withdrawn rfl).resets (by rw [link]; exact frame), same]

end Sys2Proof.Machine
end

section
/-! The arbiter's grants (O49). -/

namespace Sys2Proof.Machine

set_option Elab.async false

section Arbiter

variable {s : State} {p o : Port}

/-- One turn more changes nothing once there are more turns than claims. -/
theorem arbitrateFor_enough (n : Nat) : ∀ {s : State}, s.claimCount < n → arbitrateFor (n + 1) s = arbitrateFor n s := by
  induction n with
  | zero => exact fun few => absurd few (Nat.not_lt_zero _)
  | succ n ih =>
    intro s few
    rw [arbitrateFor, arbitrateFor]
    split
    · rfl
    · rfl
    · split
      · rfl
      · rfl
      · next p chosen =>
        have fewer := State.claimCount_grantPort (State.chosen_port chosen).2
        exact ih (by omega)

theorem State.claimCount_le (s : State) : s.claimCount ≤ 2 := by
  unfold State.claimCount
  have a := (s.claims .a).toNat_le
  have b := (s.claims .b).toNat_le
  omega

/-- A free bus granted to a port: what follows is the arbiter's work after that grant. -/
theorem State.arbitrate_grants (free : s.bus.owner = .none) (chosen : s.chosen = .port p) :
    s.arbitrate = (s.grantPort p).arbitrate := by
  have fewer := State.claimCount_grantPort (State.chosen_port chosen).2
  have few := s.claimCount_le
  have turn : s.arbitrate = arbitrateFor 2 (s.grantPort p) := by
    unfold State.arbitrate
    rw [arbitrateFor, free]
    dsimp only
    rw [chosen]
  rw [turn]
  exact (arbitrateFor_enough 2 (by omega)).symm

theorem otherPort_of : ∀ {p o : Port}, ¬ o = p → otherPort o = p ∧ otherPort p = o
  | .a, .a, other => absurd rfl other
  | .a, .b, _ => ⟨rfl, rfl⟩
  | .b, .a, _ => ⟨rfl, rfl⟩
  | .b, .b, other => absurd rfl other

/-- The port whose turn it is. -/
theorem State.chosen_turn (other : ¬ o = p) (query : s.queryWaits = false) (claims : s.claims p = true)
    (turn : s.claims o = false ∨ s.bus.last = some o ∨ (s.bus.last = none ∧ p = .a)) : s.chosen = .port p := by
  obtain ⟨fromO, fromP⟩ := otherPort_of other
  have first : s.bus.firstPort = p ∨ s.bus.firstPort = o := by
    generalize s.bus.firstPort = f
    cases p <;> cases o <;> cases f <;> simp at other ⊢
  unfold State.chosen
  rw [query, if_neg nofun]
  rcases first with is | is
  · rw [is, if_pos claims]
  · have quiet : s.claims o = false := by
      refine turn.resolve_right ?_
      unfold Bus.firstPort at is
      rintro (last | ⟨last, rfl⟩)
      · rw [last] at is
        exact other (is.symm.trans fromO)
      · rw [last] at is
        exact other is.symm
    rw [is, if_neg (by rw [quiet]; nofun), fromO, if_pos claims]

/-- The refresh set of a grant (R126, R127). -/
theorem PortRec.buildSet_eq (r : PortRec) :
    r.buildSet =
      { waveform :=
          if r.force = true ∨ r.whole = true ∨ r.ghostLimit = 0 ∨ r.ghostCount = r.ghostLimit then .fullWave
          else .partialWave
        rects :=
          if r.force = true ∨ r.whole = true ∨ r.ghostLimit = 0 ∨ r.ghostCount = r.ghostLimit then
            [⟨0, 0, r.width, r.height⟩]
          else r.damage.map widen } := by
  unfold PortRec.buildSet PortRec.waveform
  split
  · next full =>
    split at full
    · next is => rw [if_pos is, if_pos is]
    · cases full
  · next partly =>
    split at partly
    · cases partly
    · next is => rw [if_neg is, if_neg is]

theorem State.writeHoldBlocks_iff {r : PortRec} {set : RefreshSet} :
    s.writeHoldBlocks r set = true ↔
      ∃ h, s.writeHold = some h ∧ h.plane = r.boundPlane ∧ ∃ t ∈ set.rects, overlaps h.rect (r.toPlane t) = true := by
  unfold State.writeHoldBlocks
  cases s.writeHold with
  | none => simp
  | some h => simp

end Arbiter

/-- Settles O49: the choice of the port, and its examination by what stands in its way. -/
theorem grantExaminesThePort : Obligations.GrantExaminesThePort := by
  unfold Obligations.GrantExaminesThePort
  intro s
  refine ⟨State.arbitrate_owned, fun free waits => ?_, fun query a b => ?_, fun p o other free query claims turn => ?_⟩
  · have chosen : s.chosen = .query := if_pos waits
    unfold State.arbitrate
    rw [arbitrateFor, free]
    dsimp only
    rw [chosen]
  · exact State.arbitrate_quiet fun _ => State.chosen_quiet query fun p => by cases p; exacts [a, b]
  · have chosen := State.chosen_turn other query claims turn
    have grants := State.arbitrate_grants free chosen
    have waits {u : PortRec} (is : s.examinedPort p = u) (still : u.isStreaming = false) :
        s.arbitrate = State.arbitrate { s.setPort p u with bus := { owner := .none, last := some p } } := by
      rw [grants]
      unfold State.grantPort
      dsimp only
      rw [is, still]
      rfl
    unfold State.examinedPort at waits
    have set := (s.port p).buildSet_eq
    have blocks := State.writeHoldBlocks_iff (s := s) (r := s.port p) (set := (s.port p).buildSet)
    rw [set] at blocks
    refine ⟨fun locked => waits (if_pos locked) rfl, fun unlocked high => waits ?_ rfl,
      fun unlocked low blocked => waits ?_ rfl, fun unlocked low clear => ?_⟩
    · exact (if_neg (by rw [unlocked]; nofun)).trans (if_pos high)
    · refine (if_neg (by rw [unlocked]; nofun)).trans ((if_neg (by rw [low]; nofun)).trans (if_pos ?_))
      rw [set]
      exact blocks.mpr blocked
    · have streams : s.examinedPort p = (s.port p).startStreaming := by
        refine (if_neg (by rw [unlocked]; nofun)).trans ((if_neg (by rw [low]; nofun)).trans (if_neg fun blocked => clear ?_))
        rw [set] at blocked
        exact blocks.mp blocked
      have granted : s.grantPort p = { s.setPort p (s.port p).startStreaming with bus := { owner := .port p, last := some p } } := by
        unfold State.grantPort
        dsimp only
        rw [streams]
        rfl
      rw [grants, granted, State.arbitrate_owned (s := { s.setPort p _ with bus := { owner := .port p, last := some p } }) (fun owned => by cases owned)]
      unfold PortRec.startStreaming
      rw [set]
      rfl

end Sys2Proof.Machine
end

section
/-! The driver query's result (O46) and CONFIGURE_PANEL's checks (O45). -/

namespace Sys2Proof.Machine

set_option Elab.async false

section QueryResult

variable {s t : State} {q : PanelRequest}

/-- A reply with no slot in hand is discarded (R157). -/
theorem answer_discarded (r : Reply) (none : ∀ sl ∈ t.link.slots, sl.inHand = false) :
    t.answer r = { t with link := { t.link with work := .none } } := by
  have keep : t.link.slots.map (Slot.answer r) = t.link.slots := by
    refine (List.map_congr_left fun sl mem => ?_).trans (List.map_id _)
    simp [Slot.answer, none sl mem]
  unfold State.answer
  rw [keep]

theorem State.setPlane_frame (s : State) (h : Nat) (pl : Plane) :
    s.setPlane h pl = { s with planes := (s.setPlane h pl).planes } := by
  unfold State.setPlane
  split <;> rfl

/-- A configuration changes the plane table and the ports alone. -/
theorem State.configure_frame (s : State) (q : PanelRequest) (id : Nat) :
    s.configure q id =
      { s with
        planes := (s.configure q id).planes
        portA := (s.configure q id).portA
        portB := (s.configure q id).portB } := by
  unfold State.configure State.bind
  rw [State.unbind_eq, State.setPlane_frame, State.setPlane_frame]
  cases q.port <;> rfl

theorem State.port_configure (s : State) (q : PanelRequest) (id : Nat) (p : Port) :
    (s.configure q id).port p = if p = q.port then configuredPort q id else s.port p := by
  have same : ((s.unbind q.port).bind q.port q.handle).port p = (s.unbind q.port).port p :=
    State.port_congr (State.setPlane_portA ..) (State.setPlane_portB ..) p
  unfold State.configure
  rw [State.port_setPort, same, State.port_unbind]

theorem Plane.setBound_true (pl : Plane) (p : Port) :
    pl.setBound p true =
      { pl with
        boundA := if p = .a then true else pl.boundA
        boundB := if p = .b then true else pl.boundB } := by
  cases p <;> rfl

/-- The planes after a port has joined a plane's bindings (R9). -/
theorem State.plane_bind (s : State) (p : Port) (k : Nat) {h : Nat} (h1 : 1 ≤ h) (h24 : h ≤ 24) :
    (s.bind p k).plane h =
      { s.plane h with
        boundA := if p = .a ∧ h = k then true else (s.plane h).boundA
        boundB := if p = .b ∧ h = k then true else (s.plane h).boundB } := by
  unfold State.bind
  by_cases is : h = k
  · rw [← is, State.plane_setPlane s h h _ h1 h24, if_pos rfl, Plane.setBound_true]
    simp only [and_true]
  · have other : (s.setPlane k ((s.plane k).setBound p true)).plane h = s.plane h := by
      by_cases inTable : 1 ≤ k ∧ k ≤ 24
      · rw [State.plane_setPlane s h _ _ inTable.1 inTable.2, if_neg is]
      · exact State.plane_setPlane_outside s h _ _ (by omega)
    simp only [other, is, and_false, if_false]

/-- A plane's binding to a port after a configuration: the port leaves its old plane and joins its new one. -/
def boundAfter (q : PanelRequest) (old h : Nat) (p : Port) (now : Bool) : Bool :=
  if q.port = p then (if h = q.handle then true else if h = old then false else now) else now

theorem boundAfter_eq (q : PanelRequest) (old h : Nat) (p : Port) (now : Bool) :
    boundAfter q old h p now =
      if q.port = p ∧ h = q.handle then true else if q.port = p ∧ h = old then false else now := by
  unfold boundAfter
  by_cases port : q.port = p
  · simp only [port, true_and, if_true]
  · simp only [port, false_and, if_false]

theorem State.plane_configure (s : State) (q : PanelRequest) (id : Nat) {h : Nat} (h1 : 1 ≤ h) (h24 : h ≤ 24) :
    (s.configure q id).plane h =
      { s.plane h with
        boundA := boundAfter q (s.port q.port).boundPlane h .a (s.plane h).boundA
        boundB := boundAfter q (s.port q.port).boundPlane h .b (s.plane h).boundB } := by
  unfold State.configure
  rw [State.plane_congr (State.setPort_planes ..), State.plane_bind _ _ _ h1 h24, State.plane_unbind s _ h1 h24,
    boundAfter_eq, boundAfter_eq]

/-- The record a configuration leaves (R108). -/
theorem configuredPort_eq (q : PanelRequest) (id : Nat) :
    configuredPort q id =
      { state := .idle, width := q.width, height := q.height, depth := q.depth, boundPlane := q.handle,
        ox := q.ox, oy := q.oy, mode := q.mode, holdOff := holdOffInForce q.holdOff,
        ghostLimit := ghostLimitInForce q.ghostLimit, busyTimeout := busyTimeoutInForce q.busyTimeout,
        driverId := id, ghostCount := ghostLimitInForce q.ghostLimit, damage := [], whole := true,
        force := false, again := false,
        holdOffTimer := if q.mode = .auto then .running (holdOffInForce q.holdOff) else .stopped,
        busyTimer := .stopped } := by
  unfold configuredPort
  cases q.mode <;> rfl

/-- QUERY, by the state that its result leaves before the bus is given back. -/
theorem exec_query {id : Byte} (bus : s.bus.owner = .query) (work : s.link.work = some (.query q)) :
    exec (.query id) s = .next (s.queryResult q id).giveBack.transmit := by
  refine (rfl : _ = execQuery id s).trans ?_
  unfold execQuery
  rw [bus, work]

end QueryResult

/-- Settles O46: the state a query's result leaves, by its ID, and then its reply, by whether its slot is still in hand. -/
theorem queryConfiguresThePort : Obligations.QueryConfiguresThePort := by
  unfold Obligations.QueryConfiguresThePort
  intro s q id bus work
  have ends {t : State} {r : Reply} (same : t.link = s.link) (is : s.queryResult q id = t.answer r) :
      (∀ (tag : Byte) (body : List Byte) (before after : List Slot),
        s.link.slots =
          before ++ { tag := tag, kind := kindConfigurePanel, inHand := true, content := .held body } :: after →
        (∀ sl ∈ before ++ after, sl.inHand = false) →
        exec (.query id) s =
          .next (State.giveBack (t.replied kindConfigurePanel tag r before after)).transmit) ∧
        ((∀ sl ∈ s.link.slots, sl.inHand = false) →
          exec (.query id) s = .next (State.giveBack { t with link := { s.link with work := none } }).transmit) := by
    rw [exec_query bus work, is]
    refine ⟨fun tag body before after slots others => ?_, fun none => ?_⟩
    · rw [answer_eq r others (same ▸ slots)]
    · rw [answer_discarded r (same ▸ none), same]
  refine ⟨fun low high => ⟨s.configure q id.toNat, ?_, s.configure_frame q _, ?_, fun p other => ?_,
    fun h h1 h24 => s.plane_configure q _ h1 h24⟩, fun noDriver => ends rfl (if_neg (by omega))⟩
  · have same : (s.configure q id.toNat).link = s.link := by rw [State.configure_frame]
    refine ends same ((if_pos ⟨low, high⟩).trans ?_)
    unfold configureReply
    rw [itemU8_toNat]
    rfl
  · rw [State.port_configure, if_pos rfl, configuredPort_eq]
    rfl
  · rw [State.port_configure, if_neg other]

section ConfigurePanel

variable {s : State} {b m : Byte} {body : List Byte} {q : PanelRequest}

/-- The ranges of a CONFIGURE_PANEL's fields, those of its port's and its mode's byte included (R106, check 1). -/
def PanelInRange (b m : Byte) (q : PanelRequest) : Prop :=
  b.toNat ≤ 1 ∧ 8 ≤ q.width ∧ q.width ≤ 2048 ∧ q.width % 8 = 0 ∧ 1 ≤ q.height ∧ q.height ≤ 2048 ∧
    (q.depth = 1 ∨ q.depth = 2) ∧ q.ox ≤ 2047 ∧ q.oy ≤ 2047 ∧ m.toNat ≤ 1 ∧
    (q.holdOff = 0 ∨ 50 ≤ q.holdOff ∧ q.holdOff ≤ 5000) ∧ (q.ghostLimit ≤ 64 ∨ q.ghostLimit = 255) ∧
    (q.busyTimeout = 0 ∨ 100 ≤ q.busyTimeout ∧ q.busyTimeout ≤ 10000)

theorem panelInRange_iff : PanelInRange b m q ↔ b.toNat ≤ 1 ∧ m.toNat ≤ 1 ∧ panelRangesOk q = true := by
  unfold PanelInRange panelRangesOk
  simp only [Bool.and_eq_true, Bool.or_eq_true, decide_eq_true_eq]
  tauto

theorem byte_zero_or_one (low : b.toNat ≤ 1) : b = 0 ∨ b = 1 := by
  bv_omega

theorem portOfCode_low (low : b.toNat ≤ 1) : portOfCode b.toNat = some (if b = 0 then .a else .b) := by
  obtain rfl | rfl := byte_zero_or_one low <;> rfl

theorem modeOfCode_low (low : m.toNat ≤ 1) : modeOfCode m.toNat = some (if m = 0 then .manual else .auto) := by
  obtain rfl | rfl := byte_zero_or_one low <;> rfl

theorem modeOfCode_high (high : 1 < m.toNat) : modeOfCode m.toNat = none :=
  (if_neg (by omega)).trans (if_neg (by omega))

/-- The fields that a CONFIGURE_PANEL's bytes hold, the port and the mode by their lowest code or the other. -/
def panelRequestOf (body : List Byte) : PanelRequest :=
  { port := if body.getD 0 0 = 0 then .a else .b, width := fieldU16 body 1, height := fieldU16 body 3,
    depth := fieldU8 body 5, handle := fieldU8 body 6, ox := fieldU16 body 7, oy := fieldU16 body 9,
    mode := if body.getD 11 0 = 0 then .manual else .auto, holdOff := fieldU16 body 12, ghostLimit := fieldU8 body 14,
    busyTimeout := fieldU16 body 15 }

theorem panelFields_inRange (inRange : PanelInRange (body.getD 0 0) (body.getD 11 0) (panelRequestOf body)) :
    panelFields body = some (panelRequestOf body) := by
  obtain ⟨port, mode, ranges⟩ := panelInRange_iff.mp inRange
  unfold panelFields fieldU8
  rw [portOfCode_low port, modeOfCode_low mode]
  exact if_pos ranges

theorem panelFields_outOfRange (out : ¬ PanelInRange (body.getD 0 0) (body.getD 11 0) (panelRequestOf body)) :
    panelFields body = none := by
  unfold panelFields fieldU8
  by_cases port : (body.getD 0 0).toNat ≤ 1
  · by_cases mode : (body.getD 11 0).toNat ≤ 1
    · rw [portOfCode_low port, modeOfCode_low mode]
      exact if_neg fun ranges => out (panelInRange_iff.mpr ⟨port, mode, ranges⟩)
    · rw [modeOfCode_high (by omega)]
      split
      · next is => cases is
      · rfl
  · rw [portOfCode_eq_none (by omega)]

theorem PortRec.busy_of_unsettled {r : PortRec}
    (unsettled : ¬ (r.state = .unconfigured ∨ r.state = .idle ∨ ∃ c, r.state = .fault c)) : r.busy = true := by
  unfold PortRec.busy
  split
  · next is => exact absurd (.inl is) unsettled
  · next is => exact absurd (.inr (.inl is)) unsettled
  · rfl
  · rfl
  · rfl
  · next is => exact absurd (.inr (.inr ⟨_, is⟩)) unsettled

theorem PortRec.not_busy {r : PortRec} (settled : r.state = .unconfigured ∨ r.state = .idle ∨ ∃ c, r.state = .fault c) :
    ¬ r.busy = true := by
  unfold PortRec.busy
  obtain is | is | ⟨c, is⟩ := settled <;> rw [is] <;> nofun

/-- The claim of a driver query at a free bus is granted at once, before any port's (R130). -/
theorem State.arbitrate_query (free : s.bus.owner = .none) (waits : s.queryWaits = true) :
    s.arbitrate = { s with bus := { s.bus with owner := .query } } := by
  have chosen : s.chosen = .query := if_pos waits
  unfold State.arbitrate
  rw [arbitrateFor, free]
  dsimp only
  rw [chosen]

variable {tag : Byte} {before after : List Slot}

theorem NextRequest.exec_configurePanel {u : State} (hn : NextRequest s kindConfigurePanel tag body before after)
    (whole : body.length = 17) (is : configurePanel body (s.taken kindConfigurePanel tag body before after) = u) :
    exec .configurePanel s = .next u.transmit :=
  congrArg Host.Outcome.next ((hn.serveFixed 17 whole configurePanel).trans (congrArg State.transmit is))

/-- The outcome of a rule that leaves a state. -/
def answered (t : State) : Result := .next t.transmit

theorem configurePanel_refused {t : State} {st : Status} (fields : panelFields body = some q)
    (fails : t.panelStatus q = some st) : configurePanel body t = t.refuse st := by
  unfold configurePanel
  rw [fields]
  dsimp only
  rw [fails]

theorem configurePanel_passes {t : State} (fields : panelFields body = some q) (passes : t.panelStatus q = none) :
    configurePanel body t = (t.occupy (.query q)).arbitrate := by
  unfold configurePanel
  rw [fields]
  dsimp only
  rw [passes]

end ConfigurePanel

/-- Settles O45: check 1 reads the fields, checks 2 to 5 are taken in their order, and a request that passes meets a free
bus or an owned one. -/
theorem configurePanelIsCheckedInOrder : Obligations.ConfigurePanelIsCheckedInOrder := by
  unfold Obligations.ConfigurePanelIsCheckedInOrder
  intro s tag b w1 w0 h1 h0 d k x1 x0 y1 y0 m t1 t0 g u1 u0 before after hn
  let body := [b, w1, w0, h1, h0, d, k, x1, x0, y1, y0, m, t1, t0, g, u1, u0]
  let q := panelRequestOf body
  have status : (s.taken kindConfigurePanel tag body before after).panelStatus q = s.panelStatus q := by
    unfold State.panelStatus
    rw [State.taken_port, State.taken_plane]
  have refused (inRange : PanelInRange b m q) {st : Status} (fails : s.panelStatus q = some st) :
      exec .configurePanel s =
        .next (s.replied kindConfigurePanel tag { status := st, items := [] } before after).transmit := by
    rw [hn.exec_configurePanel rfl (configurePanel_refused (panelFields_inRange inRange) (status.trans fails)), hn.refuse]
  have quiet (settled : (s.port q.port).state = .unconfigured ∨ (s.port q.port).state = .idle ∨
      ∃ c, (s.port q.port).state = .fault c) : ¬ (s.port q.port).busy = true := PortRec.not_busy settled
  refine ⟨fun out => ?_, fun inRange unsettled => refused inRange (if_pos (PortRec.busy_of_unsettled unsettled)),
    fun inRange settled => ⟨fun free => refused inRange ?_, fun retiring => refused inRange ?_,
      fun live other => refused inRange ?_, fun live depth out => refused inRange ?_, fun live depth wide high => ?_⟩⟩
  · have none := panelFields_outOfRange (body := body) out
    rw [hn.exec_configurePanel rfl (u := State.refuse _ .badValue) (by unfold configurePanel; rw [none]), hn.refuse]
  · exact (if_neg (quiet settled)).trans (if_pos free)
  · refine (if_neg (quiet settled)).trans ((if_neg ?_).trans (if_pos retiring))
    exact fun free => nomatch free.symm.trans retiring
  · refine (if_neg (quiet settled)).trans ((if_neg ?_).trans ((if_neg ?_).trans (if_pos other)))
    · exact fun free => nomatch free.symm.trans live
    · exact fun retiring => nomatch retiring.symm.trans live
  · refine (if_neg (quiet settled)).trans ((if_neg ?_).trans ((if_neg ?_).trans
      ((if_neg (not_not_intro depth)).trans (if_pos out))))
    · exact fun free => nomatch free.symm.trans live
    · exact fun retiring => nomatch retiring.symm.trans live
  · have passes : s.panelStatus q = none := by
      refine (if_neg (quiet settled)).trans ((if_neg ?_).trans ((if_neg ?_).trans
        ((if_neg (not_not_intro depth)).trans (if_neg (not_not_intro ⟨wide, high⟩)))))
      · exact fun free => nomatch free.symm.trans live
      · exact fun retiring => nomatch retiring.symm.trans live
    have claims := hn.exec_configurePanel rfl (configurePanel_passes (panelFields_inRange inRange) (status.trans passes))
    rw [taken_occupy] at claims
    exact ⟨fun free => claims.trans (congrArg answered (State.arbitrate_query free rfl)),
      fun owned => claims.trans (congrArg answered (State.arbitrate_owned owned))⟩

end Sys2Proof.Machine
end

section
/-! The bytes of a SUBMIT: its length, its ranges and the job they spell (R41, Tables 3-3 and 11-7). -/

namespace Sys2Proof.Machine

set_option Elab.async false

section SubmitBody

variable {body : List Byte}

/-- The fields of a FILL or a BLOCK that a SUBMIT's bytes spell. -/
def submitDraw (body : List Byte) : DrawFields :=
  { dest := bodyU8 body 2, rect := submitRect body,
    source := if bodyU8 body 11 = 0 then .const else if bodyU8 body 11 = 1 then .pattern
      else if bodyU8 body 11 = 2 then .plane else .planeAndPattern,
    constant := BitVec.ofNat 2 (bodyU8 body 12), pattern := bodyU8 body 13,
    fn := BitVec.ofNat 4 (bodyU8 body 14) }

/-- The TEXT that a SUBMIT's bytes spell. -/
def submitText (body : List Byte) : JobBody :=
  .text (bodyU8 body 2) (bodyU8 body 3) (bodyS16 body 4) (bodyS16 body 6) (BitVec.ofNat 2 (bodyU8 body 8))
    (BitVec.ofNat 4 (bodyU8 body 9)) ((List.range ((body.length - 10) / 2)).map (fun i => bodyU16 body (10 + 2 * i)))

/-- The job that a SUBMIT's bytes spell, before a LOAD's total is computed. -/
def submitJob (body : List Byte) : JobBody :=
  if bodyU8 body 0 = 1 then .fill (submitDraw body)
  else if bodyU8 body 0 = 2 then .block (submitDraw body) (bodyU8 body 15) (bodyU16 body 16) (bodyU16 body 18)
  else if bodyU8 body 0 = 3 then .load (bodyU8 body 2) (submitRect body) (BitVec.ofNat 4 (bodyU8 body 11)) 0 0
  else if bodyU8 body 0 = 4 then submitText body
  else if bodyU8 body 0 = 5 then .showPort (if bodyU8 body 2 = 0 then .a else .b) (decide (bodyU8 body 3 = 1))
  else if bodyU8 body 0 = 6 then .pack
  else .mark (bodyU16 body 2 * 65536 + bodyU16 body 4)

/-- Check 2 of a SUBMIT, but for its report flag. -/
def SubmitFieldsInRange (body : List Byte) : Prop :=
  let kind := bodyU8 body 0
  let source := bodyU8 body 11
  let draws := SubmitRectInRange body ∧ bodyU8 body 12 ≤ 3 ∧ bodyU8 body 13 ≤ 15 ∧ bodyU8 body 14 ≤ 15
  1 ≤ kind ∧ kind ≤ 7 ∧ (kind = 1 → draws ∧ (source = 0 ∨ source = 1)) ∧
    (kind = 2 → draws ∧ (source = 2 ∨ source = 3) ∧ bodyU16 body 16 ≤ 2047 ∧ bodyU16 body 18 ≤ 2047) ∧
    (kind = 3 → SubmitRectInRange body ∧ bodyU8 body 11 ≤ 15) ∧
    (kind = 4 → bodyU8 body 3 ≤ 3 ∧ bodyU8 body 8 ≤ 3 ∧ bodyU8 body 9 ≤ 15) ∧
    (kind = 5 → bodyU8 body 2 ≤ 1 ∧ bodyU8 body 3 ≤ 1)

theorem submitInRange_iff : SubmitInRange body ↔ SubmitFieldsInRange body ∧ bodyU8 body 1 ≤ 1 := by
  unfold SubmitInRange SubmitFieldsInRange
  tauto

/-- The length check, by kind. -/
theorem submitLengthOk_iff : submitLengthOk body = true ↔ SubmitLengthFits body := by
  have codes : (∃ codes, 1 ≤ codes ∧ codes ≤ 128 ∧ body.length = 10 + 2 * codes) ↔
      12 ≤ body.length ∧ body.length ≤ 266 ∧ body.length % 2 = 0 :=
    ⟨fun ⟨n, low, high, is⟩ => by omega, fun ⟨low, high, even⟩ => ⟨(body.length - 10) / 2, by omega, by omega, by omega⟩⟩
  unfold submitLengthOk SubmitLengthFits
  rw [codes]
  dsimp only
  rw [show fieldU8 body 0 = bodyU8 body 0 from rfl]
  split
  case h_8 n1 n2 n3 n4 n5 n6 n7 =>
    rw [decide_eq_true_iff]
    exact ⟨fun enough => ⟨fun is => (n1 is).elim, fun is => (n2 is).elim, fun is => (n3 is).elim, fun is => (n4 is).elim,
      fun is => (n5 is).elim, fun is => (n6 is).elim, fun is => (n7 is).elim, enough⟩,
      fun ⟨_, _, _, _, _, _, _, enough⟩ => enough⟩
  all_goals
    next is =>
      rw [is]
      simp
      omega

/-! ### The fields by kind -/

theorem rectFieldsOk_iff : rectFieldsOk (fieldRect body 3) = true ↔ SubmitRectInRange body := by
  unfold rectFieldsOk SubmitRectInRange fieldRect
  simp only [Bool.and_eq_true, decide_eq_true_eq, and_assoc]
  rfl

/-- The ranges that the fields of a FILL and of a BLOCK share, but for the source kind. -/
def SubmitDrawInRange (body : List Byte) : Prop :=
  SubmitRectInRange body ∧ bodyU8 body 12 ≤ 3 ∧ bodyU8 body 13 ≤ 15 ∧ bodyU8 body 14 ≤ 15

theorem drawFields_iff {source : Nat → Option SourceKind} {d : DrawFields} :
    drawFields body source = some d ↔
      SubmitDrawInRange body ∧ ∃ sk, source (bodyU8 body 11) = some sk ∧ { submitDraw body with source := sk } = d := by
  unfold drawFields SubmitDrawInRange
  rw [← rectFieldsOk_iff, show fieldU8 body 11 = bodyU8 body 11 from rfl]
  split
  · next unknown => simp [unknown]
  · next sk known =>
    rw [known, Option.ite_none_right_eq_some]
    refine and_congr Iff.rfl ⟨fun is => ⟨sk, rfl, Option.some.inj is⟩, fun ⟨k, same, is⟩ => ?_⟩
    obtain rfl : sk = k := Option.some.inj same
    exact congrArg some is

theorem fillSource_iff {sk : SourceKind} :
    fillSource (bodyU8 body 11) = some sk ↔
      (bodyU8 body 11 = 0 ∨ bodyU8 body 11 = 1) ∧ (submitDraw body).source = sk := by
  unfold fillSource submitDraw
  by_cases zero : bodyU8 body 11 = 0
  · simp [zero]
  · by_cases one : bodyU8 body 11 = 1 <;> simp [zero, one]

theorem blockSource_iff {sk : SourceKind} :
    blockSource (bodyU8 body 11) = some sk ↔
      (bodyU8 body 11 = 2 ∨ bodyU8 body 11 = 3) ∧ (submitDraw body).source = sk := by
  unfold blockSource submitDraw
  by_cases two : bodyU8 body 11 = 2
  · simp [two]
  · by_cases three : bodyU8 body 11 = 3 <;> simp [two, three]

theorem fillFields_iff {j : JobBody} :
    fillFields body = some j ↔
      (SubmitDrawInRange body ∧ (bodyU8 body 11 = 0 ∨ bodyU8 body 11 = 1)) ∧ .fill (submitDraw body) = j := by
  unfold fillFields
  rw [Option.map_eq_some_iff]
  refine ⟨fun ⟨d, fields, is⟩ => ?_, fun ⟨⟨draws, known⟩, is⟩ => ?_⟩
  · obtain ⟨draws, sk, known, rfl⟩ := drawFields_iff.mp fields
    obtain ⟨code, rfl⟩ := fillSource_iff.mp known
    exact ⟨⟨draws, code⟩, is⟩
  · exact ⟨submitDraw body, drawFields_iff.mpr ⟨draws, _, fillSource_iff.mpr ⟨known, rfl⟩, rfl⟩, is⟩

theorem blockFields_iff {j : JobBody} :
    blockFields body = some j ↔
      (SubmitDrawInRange body ∧ (bodyU8 body 11 = 2 ∨ bodyU8 body 11 = 3) ∧ bodyU16 body 16 ≤ 2047 ∧
        bodyU16 body 18 ≤ 2047) ∧
        .block (submitDraw body) (bodyU8 body 15) (bodyU16 body 16) (bodyU16 body 18) = j := by
  unfold blockFields
  split
  · next none =>
    refine ⟨nofun, fun ⟨⟨draws, known, _⟩, _⟩ => ?_⟩
    have some := drawFields_iff.mpr ⟨draws, _, blockSource_iff.mpr ⟨known, rfl⟩, rfl⟩
    cases none.symm.trans some
  · next d fields =>
    obtain ⟨draws, sk, known, rfl⟩ := drawFields_iff.mp fields
    obtain ⟨code, rfl⟩ := blockSource_iff.mp known
    rw [Option.ite_none_right_eq_some, Option.some.injEq]
    exact and_congr ⟨fun origin => ⟨draws, code, origin⟩, fun ⟨_, _, origin⟩ => origin⟩ Iff.rfl

theorem loadFields_iff {j : JobBody} :
    loadFields body = some j ↔
      (SubmitRectInRange body ∧ bodyU8 body 11 ≤ 15) ∧
        .load (bodyU8 body 2) (submitRect body) (BitVec.ofNat 4 (bodyU8 body 11)) 0 0 = j := by
  unfold loadFields
  rw [← rectFieldsOk_iff, Option.ite_none_right_eq_some, Option.some.injEq]
  rfl

/-- The words of a run of bytes, by their offsets. -/
theorem fieldsU16_eq : ∀ l : List Byte, fieldsU16 l = (List.range (l.length / 2)).map fun i => bodyU16 l (2 * i)
  | [] => rfl
  | [_] => by simp [fieldsU16]
  | hi :: lo :: rest => by
    have count : (hi :: lo :: rest).length / 2 = rest.length / 2 + 1 := by
      rw [List.length_cons, List.length_cons]
      omega
    rw [fieldsU16, fieldsU16_eq rest, count, List.range_succ_eq_map, List.map_cons, List.map_map]
    rfl

/-- The codes of a TEXT, by their offsets in the body. -/
theorem submitCodes_eq (body : List Byte) :
    fieldsU16 (body.drop 10) = (List.range ((body.length - 10) / 2)).map (fun i => bodyU16 body (10 + 2 * i)) := by
  have byte (i : Nat) : bodyU8 (body.drop 10) i = bodyU8 body (10 + i) := by
    unfold bodyU8
    rw [List.getD_eq_getElem?_getD, List.getD_eq_getElem?_getD, List.getElem?_drop]
  rw [fieldsU16_eq, List.length_drop]
  refine List.map_congr_left fun i _ => ?_
  unfold bodyU16
  rw [byte, byte, Nat.add_assoc]

theorem textFields_iff {j : JobBody} :
    textFields body = some j ↔
      (bodyU8 body 3 ≤ 3 ∧ bodyU8 body 8 ≤ 3 ∧ bodyU8 body 9 ≤ 15) ∧ submitText body = j := by
  unfold textFields submitText
  rw [submitCodes_eq, Option.ite_none_right_eq_some, Option.some.injEq]
  rfl

theorem portOfCode_iff {n : Nat} {p : Port} : portOfCode n = some p ↔ n ≤ 1 ∧ (if n = 0 then Port.a else .b) = p := by
  match n with
  | 0 | 1 => simp [portOfCode]
  | n + 2 => simp [portOfCode]

theorem flagOfCode_iff {n : Nat} {f : Bool} : flagOfCode n = some f ↔ n ≤ 1 ∧ decide (n = 1) = f := by
  match n with
  | 0 | 1 => simp [flagOfCode]
  | n + 2 => simp [flagOfCode]

theorem showFields_iff {j : JobBody} :
    showFields body = some j ↔
      (bodyU8 body 2 ≤ 1 ∧ bodyU8 body 3 ≤ 1) ∧
        .showPort (if bodyU8 body 2 = 0 then .a else .b) (decide (bodyU8 body 3 = 1)) = j := by
  unfold showFields
  split
  · next p f port force =>
    obtain ⟨lowPort, rfl⟩ := portOfCode_iff.mp port
    obtain ⟨lowForce, rfl⟩ := flagOfCode_iff.mp force
    rw [Option.some.injEq]
    exact ⟨fun is => ⟨⟨lowPort, lowForce⟩, is⟩, fun ⟨_, is⟩ => is⟩
  · next unknown =>
    exact ⟨nofun, fun ⟨⟨port, force⟩, _⟩ =>
      (unknown _ _ (portOfCode_iff.mpr ⟨port, rfl⟩) (flagOfCode_iff.mpr ⟨force, rfl⟩)).elim⟩

/-- The kind and its fields are read where each is in its range. -/
theorem jobFields_iff {j : JobBody} : jobFields body = some j ↔ SubmitFieldsInRange body ∧ submitJob body = j := by
  unfold jobFields SubmitFieldsInRange submitJob
  rw [show fieldU8 body 0 = bodyU8 body 0 from rfl]
  split
  · next is => simp [is, fillFields_iff, SubmitDrawInRange]
  · next is => simp [is, blockFields_iff, SubmitDrawInRange]
  · next is => simp [is, loadFields_iff]
  · next is => simp [is, textFields_iff]
  · next is => simp [is, showFields_iff]
  · next is => simp [is]
  · next is =>
    simp [is]
    rfl
  · next n1 n2 n3 n4 n5 n6 n7 =>
    refine ⟨nofun, fun ⟨⟨low, high, _⟩, _⟩ => ?_⟩
    have unknown : ¬ bodyU8 body 0 = 1 ∧ ¬ bodyU8 body 0 = 2 ∧ ¬ bodyU8 body 0 = 3 ∧ ¬ bodyU8 body 0 = 4 ∧
        ¬ bodyU8 body 0 = 5 ∧ ¬ bodyU8 body 0 = 6 ∧ ¬ bodyU8 body 0 = 7 := ⟨n1, n2, n3, n4, n5, n6, n7⟩
    omega

end SubmitBody

end Sys2Proof.Machine
end

section
/-! SUBMIT's checks and its acceptance (O24, O25). -/

namespace Sys2Proof.Machine

set_option Elab.async false

section Submit

variable {s : State} {body : List Byte} {h : Nat}

/-- The planes of the job a SUBMIT spells are those it names. -/
theorem mem_submitJob_planes : h ∈ (submitJob body).planes ↔ h ∈ submitHandles body := by
  unfold submitJob submitHandles
  dsimp only
  split
  · next is => simp [is, JobBody.planes, submitDraw]
  · next n1 =>
    split
    · next is =>
      unfold JobBody.planes submitDraw
      dsimp only
      split
      · next same => simp [same]
      · rfl
    · next n2 =>
      split
      · next is => simp [is, JobBody.planes]
      · next n3 =>
        split
        · next is => simp [is, submitText, JobBody.planes]
        · next n4 =>
          have none : (if bodyU8 body 0 = 1 ∨ bodyU8 body 0 = 3 ∨ bodyU8 body 0 = 4 then [bodyU8 body 2] else []) = [] :=
            if_neg (by omega)
          rw [none]
          split
          · rfl
          · split <;> rfl

/-- A LOAD's total is computed at acceptance (R71). -/
theorem State.withSizes_submitJob (s : State) (body : List Byte) : s.withSizes (submitJob body) = s.submittedJob body := by
  unfold submitJob State.submittedJob
  dsimp only
  split
  · rfl
  · split
    · rfl
    · split
      · rfl
      · split
        · rfl
        · split
          · rfl
          · split <;> rfl

theorem Plane.contains_iff {pl : Plane} {r : Rect} :
    pl.contains r = true ↔ r.x + r.w ≤ pl.width ∧ r.y + r.h ≤ pl.height := by
  unfold Plane.contains insideArea
  rw [Bool.and_eq_true, decide_eq_true_iff, decide_eq_true_iff]

/-- Checks 4 to 7: the state of the planes, then the geometry. -/
theorem State.planeStatus_eq (s : State) (body : List Byte) :
    s.planeStatus (submitJob body) =
      if ∃ h ∈ submitHandles body, (s.plane h).state = .free then some .noSuchPlane
      else if ∃ h ∈ submitHandles body, (s.plane h).state = .retiring then some .retiring
      else s.geometryStatus (submitJob body) := by
  have any (st : PlaneState) :
      ((submitJob body).planes.any (fun h => decide ((s.plane h).state = st)) = true) =
        ∃ h ∈ submitHandles body, (s.plane h).state = st := by
    simp only [List.any_eq_true, mem_submitJob_planes, decide_eq_true_eq]
  unfold State.planeStatus
  simp only [any]

/-! ### The geometry by kind -/

theorem submitJob_fill (is : bodyU8 body 0 = 1) : submitJob body = .fill (submitDraw body) := if_pos is

theorem submitJob_block (is : bodyU8 body 0 = 2) :
    submitJob body = .block (submitDraw body) (bodyU8 body 15) (bodyU16 body 16) (bodyU16 body 18) :=
  (if_neg (by omega)).trans (if_pos is)

theorem submitJob_load (is : bodyU8 body 0 = 3) :
    submitJob body = .load (bodyU8 body 2) (submitRect body) (BitVec.ofNat 4 (bodyU8 body 11)) 0 0 :=
  (if_neg (by omega)).trans ((if_neg (by omega)).trans (if_pos is))

/-- The kinds that have no rectangle to check. -/
theorem State.geometry_none (s : State) (other : 4 ≤ bodyU8 body 0) : s.geometryStatus (submitJob body) = none := by
  unfold submitJob
  rw [if_neg (by omega), if_neg (by omega), if_neg (by omega)]
  split
  · rfl
  · split
    · rfl
    · split <;> rfl

/-- Checks 5 to 7 are passed. -/
theorem State.geometry_fits (low : 1 ≤ bodyU8 body 0) (fits : s.submitFits body) :
    s.geometryStatus (submitJob body) = none := by
  obtain ⟨fill, block, load⟩ := fits
  by_cases is : bodyU8 body 0 = 1
  · rw [submitJob_fill is]
    exact if_pos (Plane.contains_iff.mpr (fill is))
  by_cases is : bodyU8 body 0 = 2
  · obtain ⟨depth, dest, source⟩ := block is
    rw [submitJob_block is]
    exact (if_neg (not_not_intro depth)).trans (if_pos ⟨Plane.contains_iff.mpr dest, Plane.contains_iff.mpr source⟩)
  by_cases is : bodyU8 body 0 = 3
  · obtain ⟨inside, bytes⟩ := load is
    rw [submitJob_load is]
    exact (if_neg (by rw [Plane.contains_iff.mpr inside]; nofun)).trans (if_pos bytes)
  · exact s.geometry_none (by omega)

/-! ### The request, by the first check that fails -/

theorem submit_badLength {t : State} (short : ¬ SubmitLengthFits body) : submit body t = t.refuse .badLength := by
  unfold submit
  exact if_pos (Bool.eq_false_iff.mpr fun fits => short (submitLengthOk_iff.mp fits))

theorem submit_badValue {t : State} (fits : SubmitLengthFits body) (out : ¬ SubmitInRange body) :
    submit body t = t.refuse .badValue := by
  unfold submit
  rw [if_neg (by rw [submitLengthOk_iff.mpr fits]; nofun)]
  split
  · next fields flag =>
    exact absurd (submitInRange_iff.mpr ⟨(jobFields_iff.mp fields).1, (flagOfCode_iff.mp flag).1⟩) out
  · rfl

theorem submit_inRange {t : State} (fits : SubmitLengthFits body) (inRange : SubmitInRange body) :
    submit body t =
      if 32 ≤ t.jobs.length then t.answer { status := .queueFull, items := itemU8 t.jobs.length }
      else
        match t.planeStatus (submitJob body) with
        | some st => t.refuse st
        | none =>
          (if t.jobs.isEmpty = true then (t.accept (submitJob body) (decide (bodyU8 body 1 = 1))).examine
          else t.accept (submitJob body) (decide (bodyU8 body 1 = 1))).answer
            { status := .ok, items := itemU16 t.nextNumber } := by
  obtain ⟨fields, flag⟩ := submitInRange_iff.mp inRange
  have job := jobFields_iff.mpr ⟨fields, rfl⟩
  have report : flagOfCode (fieldU8 body 1) = some (decide (bodyU8 body 1 = 1)) := flagOfCode_iff.mpr ⟨flag, rfl⟩
  unfold submit
  rw [if_neg (by rw [submitLengthOk_iff.mpr fits]; nofun), job, report]
  rfl

variable {tag : Byte} {before after : List Slot}

theorem NextRequest.exec_submit {u : State} (hn : NextRequest s kindSubmit tag body before after)
    (is : submit body (s.taken kindSubmit tag body before after) = u) : exec .submit s = .next u.transmit :=
  congrArg Host.Outcome.next ((hn.serve submit).trans (congrArg State.transmit is))

/-- A SUBMIT refused by its planes or its geometry. -/
theorem NextRequest.submit_refused {st : Status} (hn : NextRequest s kindSubmit tag body before after)
    (fits : SubmitLengthFits body) (inRange : SubmitInRange body) (room : s.jobs.length < 32)
    (fails : s.planeStatus (submitJob body) = some st) :
    exec .submit s = .next (s.replied kindSubmit tag { status := st, items := [] } before after).transmit := by
  refine hn.exec_submit ((submit_inRange fits inRange).trans ((if_neg (by rw [State.taken_jobs]; omega)).trans ?_))
  have taken : (s.taken kindSubmit tag body before after).planeStatus (submitJob body) = some st := fails
  rw [taken]
  exact hn.refuse st

/-- Acceptance reads nothing of the link and leaves it alone. -/
theorem SeesWorkOnly.accept (b : JobBody) (report : Bool) : SeesWorkOnly (fun s => s.accept b report) := by
  intro s l same
  have refs : SeesWorkOnly (fun s => b.planes.foldl State.raiseRef s) :=
    SeesWorkOnly.foldl (f := State.raiseRef) (fun h => .setPlane h _ (fun _ _ => rfl)) b.planes
  obtain ⟨raised, -⟩ := refs s l same
  have job : (s.withLink l).newJob b report = s.newJob b report := by cases b <;> rfl
  refine ⟨?_, s.accept_link b report⟩
  dsimp only at raised ⊢
  unfold State.accept
  rw [raised, job]
  rfl

/-- Acceptance, and the examination of a job that finds the queue empty (R43). -/
theorem SeesWorkOnly.acceptExamine (b : JobBody) (report : Bool) :
    SeesWorkOnly (fun s => if s.jobs.isEmpty = true then (s.accept b report).examine else s.accept b report) :=
  SeesWorkOnly.ite (c := fun s => s.jobs.isEmpty = true) (f := fun s => (s.accept b report).examine)
    (g := fun s => s.accept b report) (fun _ _ _ => Iff.rfl)
    (SeesWorkOnly.comp (g := State.examine) .examine (.accept b report)) (.accept b report)

/-- A SUBMIT that is accepted. -/
theorem NextRequest.submit_accepted (hn : NextRequest s kindSubmit tag body before after)
    (fits : SubmitLengthFits body) (inRange : SubmitInRange body) (room : s.jobs.length < 32)
    (passes : s.planeStatus (submitJob body) = none) :
    exec .submit s =
      .next (State.replied
        (if s.jobs = [] then (s.accept (submitJob body) (decide (bodyU8 body 1 = 1))).examine
        else s.accept (submitJob body) (decide (bodyU8 body 1 = 1)))
        kindSubmit tag { status := .ok, items := itemU16 s.nextNumber } before after).transmit := by
  refine hn.exec_submit ((submit_inRange fits inRange).trans ((if_neg (by rw [State.taken_jobs]; omega)).trans ?_))
  have taken : (s.taken kindSubmit tag body before after).planeStatus (submitJob body) = none := passes
  rw [taken]
  refine (hn.answerAfter (.acceptExamine (submitJob body) (decide (bodyU8 body 1 = 1))) _).trans ?_
  simp only [List.isEmpty_iff]
  rfl

end Submit

/-- Settles O24: the first check that fails, in R41's order, by the equations of the request. -/
theorem submitIsRefusedInOrder : Obligations.SubmitIsRefusedInOrder := by
  unfold Obligations.SubmitIsRefusedInOrder
  intro s tag body before after hn
  refine ⟨fun short => ?_, fun fits out => ?_, fun fits inRange => ⟨fun full => ?_, fun room => ?_⟩⟩
  · exact hn.exec_submit ((submit_badLength short).trans (hn.refuse .badLength))
  · exact hn.exec_submit ((submit_badValue fits out).trans (hn.refuse .badValue))
  · exact hn.exec_submit ((submit_inRange fits inRange).trans ((if_pos full).trans (hn.answerAtOnce _)))
  · have refused {st : Status} (fails : s.planeStatus (submitJob body) = some st) :=
      hn.submit_refused fits inRange room fails
    have planes := s.planeStatus_eq body
    refine ⟨fun ⟨h, names, absent⟩ => refused (planes.trans (if_pos ⟨h, names, ?_⟩)),
      fun present ⟨h, names, retiring⟩ => refused ?_, fun live => ?_⟩
    · rcases absent with zero | high | free
      · rw [s.plane_outside h (by omega)]
        rfl
      · rw [s.plane_outside h (by omega)]
        rfl
      · exact free
    · exact planes.trans ((if_neg fun ⟨k, named, free⟩ => present k named free).trans (if_pos ⟨h, names, retiring⟩))
    · have geometry : s.planeStatus (submitJob body) = s.geometryStatus (submitJob body) := by
        refine planes.trans ((if_neg ?_).trans (if_neg ?_))
        · exact fun ⟨k, named, free⟩ => nomatch free.symm.trans (live k named)
        · exact fun ⟨k, named, retiring⟩ => nomatch retiring.symm.trans (live k named)
      refine ⟨fun is out => refused (geometry.trans ?_), fun is other => refused (geometry.trans ?_),
        fun is depth out => refused (geometry.trans ?_), fun is out => refused (geometry.trans ?_),
        fun is inside off => refused (geometry.trans ?_)⟩
      · rw [submitJob_fill is]
        exact if_neg (mt Plane.contains_iff.mp out)
      · rw [submitJob_block is]
        exact if_pos other
      · rw [submitJob_block is]
        exact (if_neg (not_not_intro depth)).trans
          (if_neg fun ⟨dest, source⟩ => out ⟨Plane.contains_iff.mp dest, Plane.contains_iff.mp source⟩)
      · rw [submitJob_load is]
        exact if_pos (Bool.eq_false_iff.mpr (mt Plane.contains_iff.mp out))
      · rw [submitJob_load is]
        exact (if_neg (by rw [Plane.contains_iff.mpr inside]; nofun)).trans (if_neg off)

/-- Settles O25: the number found is the first free one, and the accepted state is `State.accept`'s. -/
theorem acceptedJobJoinsTheQueue : Obligations.AcceptedJobJoinsTheQueue := by
  unfold Obligations.AcceptedJobJoinsTheQueue
  intro s tag body before after hn law fits inRange room live geometry
  obtain ⟨-, -, -, -, -, -, low, high, -⟩ := law
  obtain ⟨k, number, held, free⟩ := State.nextNumber_eq (s := s) ⟨low, high⟩ (by omega)
  have planes (h : Nat) (named : h ∈ (submitJob body).planes) : (s.plane h).state = .live :=
    live h (mem_submitJob_planes.mp named)
  have passes : s.planeStatus (submitJob body) = none := by
    refine (s.planeStatus_eq body).trans ((if_neg ?_).trans ((if_neg ?_).trans (State.geometry_fits inRange.1 geometry)))
    · exact fun ⟨h, named, is⟩ => nomatch is.symm.trans (live h named)
    · exact fun ⟨h, named, is⟩ => nomatch is.symm.trans (live h named)
  have accepted := hn.submit_accepted fits inRange room passes
  rw [number] at accepted
  refine ⟨s.accept (submitJob body) (decide (bodyU8 body 1 = 1)), k, accepted, s.accept_frame _ _, ?_, held, free, ?_,
    fun h _ _ => ?_⟩
  · rw [s.accept_frame]
    unfold State.newJob
    rw [s.withSizes_submitJob, number]
    rfl
  · rw [s.accept_frame]
    dsimp only
    rw [number, numberAfter_numberFrom]
    rfl
  · rw [State.accept_plane planes]
    simp only [List.contains_iff_mem, mem_submitJob_planes]

end Sys2Proof.Machine
end

section
/-! The bodies that the jobs of a SUBMIT are sent as (O23). -/

namespace Sys2Proof.Machine

set_option Elab.async false

/-! ## What the items written are read as -/

theorem byte_read {n : Nat} (low : n < 256) : (BitVec.ofNat 8 n).toNat = n := Nat.mod_eq_of_lt low

theorem word_read {n : Nat} (low : n < 65536) : (BitVec.ofNat 8 (n / 256)).toNat * 256 + (BitVec.ofNat 8 n).toNat = n := by
  rw [byte_read (by omega), BitVec.toNat_ofNat]
  omega

theorem signed_read {n : Int} (low : -32768 ≤ n) (high : n ≤ 32767) :
    (if (n % 65536).toNat < 32768 then ((n % 65536).toNat : Int) else ((n % 65536).toNat : Int) - 65536) = n := by
  split <;> omega

theorem codes_read : ∀ {codes : List Nat}, (∀ k ∈ codes, k < 65536) → fieldsU16 (codes.flatMap itemU16) = codes
  | [], _ => by simp [fieldsU16]
  | k :: codes, low => by
    obtain ⟨first, rest⟩ := List.forall_mem_cons.mp low
    rw [List.flatMap_cons]
    change fieldsU16 (_ :: _ :: codes.flatMap itemU16) = _
    rw [fieldsU16, codes_read rest, word_read first]

/-- A body reads as a job, and passes the length check and, with a report flag in range, the range check. -/
def ReadsAs (flag : Nat) (body : List Byte) (job : JobBody) : Prop :=
  jobFields body = some job ∧ SubmitLengthFits body ∧ (flag ≤ 1 → SubmitInRange body)

theorem codes_length : ∀ codes : List Nat, (codes.flatMap itemU16).length = 2 * codes.length
  | [] => rfl
  | k :: codes => by
    rw [List.flatMap_cons, List.length_append, codes_length codes, List.length_cons]
    exact (Nat.add_comm 2 _).trans (Nat.mul_succ 2 _).symm

section Sent

variable {body : List Byte} {flag : Nat} {job : JobBody}

/-- A body reads as a job where its length fits, its fields are in range and it spells the job. -/
theorem sent_reads (length : SubmitLengthFits body) (fields : SubmitFieldsInRange body) (is : submitJob body = job)
    (report : bodyU8 body 1 = (BitVec.ofNat 8 flag).toNat) :
    ReadsAs flag body job :=
  ⟨jobFields_iff.mpr ⟨fields, is⟩, length, fun low =>
    submitInRange_iff.mpr ⟨fields, by rw [report, byte_read (by omega)]; exact low⟩⟩

variable {dest x y w h : Nat}

/-- A rectangle's four fields, behind three bytes, are read as they were sent. -/
theorem rect_read {a b d : Byte} {rest : List Byte} (hr : x ≤ 2047 ∧ y ≤ 2047 ∧ (1 ≤ w ∧ w ≤ 2048) ∧ 1 ≤ h ∧ h ≤ 2048) :
    submitRect (a :: b :: d :: (itemU16 x ++ itemU16 y ++ itemU16 w ++ itemU16 h ++ rest)) = ⟨x, y, w, h⟩ ∧
      SubmitRectInRange (a :: b :: d :: (itemU16 x ++ itemU16 y ++ itemU16 w ++ itemU16 h ++ rest)) := by
  generalize is : a :: b :: d :: (itemU16 x ++ itemU16 y ++ itemU16 w ++ itemU16 h ++ rest) = body
  have fx : bodyU16 body 3 = x := is ▸ word_read (n := x) (by omega)
  have fy : bodyU16 body 5 = y := is ▸ word_read (n := y) (by omega)
  have fw : bodyU16 body 7 = w := is ▸ word_read (n := w) (by omega)
  have fh : bodyU16 body 9 = h := is ▸ word_read (n := h) (by omega)
  unfold submitRect SubmitRectInRange
  rw [fx, fy, fw, fh]
  exact ⟨rfl, hr⟩

/-- The bytes of a FILL or a BLOCK, as far as the two are alike. -/
def drawBytes (kind flag dest x y w h source c pat fn : Nat) (rest : List Byte) : List Byte :=
  BitVec.ofNat 8 kind :: BitVec.ofNat 8 flag :: BitVec.ofNat 8 dest ::
    (itemU16 x ++ itemU16 y ++ itemU16 w ++ itemU16 h ++
      (itemU8 source ++ itemU8 c ++ itemU8 pat ++ itemU8 fn ++ rest))

/-- The fields that a FILL and a BLOCK share are read as they were sent. -/
theorem draw_read {kind source c pat : Nat} {fn : BitVec 4} {rest : List Byte} {sk : SourceKind} (hd : dest < 256)
    (hr : x ≤ 2047 ∧ y ≤ 2047 ∧ (1 ≤ w ∧ w ≤ 2048) ∧ 1 ≤ h ∧ h ≤ 2048) (hc : c ≤ 3) (hp : pat ≤ 15) (hs : source < 256)
    (code : (if source = 0 then SourceKind.const else if source = 1 then .pattern else if source = 2 then .plane
      else .planeAndPattern) = sk) {body : List Byte}
    (is : drawBytes kind flag dest x y w h source c pat fn.toNat rest = body) :
    submitDraw body =
        { dest := dest, rect := ⟨x, y, w, h⟩, source := sk, constant := BitVec.ofNat 2 c, pattern := pat, fn := fn } ∧
      SubmitDrawInRange body ∧ bodyU8 body 11 = source := by
  have low := fn.isLt
  obtain ⟨rect, inRange⟩ := rect_read (a := BitVec.ofNat 8 kind) (b := BitVec.ofNat 8 flag) (d := BitVec.ofNat 8 dest)
    (rest := itemU8 source ++ itemU8 c ++ itemU8 pat ++ itemU8 fn.toNat ++ rest) hr
  have fr : submitRect body = ⟨x, y, w, h⟩ := is ▸ rect
  have fs : bodyU8 body 11 = source := is ▸ byte_read hs
  have fd : bodyU8 body 2 = dest := is ▸ byte_read hd
  have fc : bodyU8 body 12 = c := is ▸ byte_read (n := c) (by omega)
  have fp : bodyU8 body 13 = pat := is ▸ byte_read (n := pat) (by omega)
  have ff : bodyU8 body 14 = fn.toNat := is ▸ byte_read (n := fn.toNat) (by omega)
  refine ⟨?_, ⟨is ▸ inRange, by omega, by omega, by omega⟩, fs⟩
  unfold submitDraw
  rw [fs, fd, fc, fp, ff, code, fr, BitVec.ofNat_toNat, BitVec.setWidth_eq]

/-! ### The checks by kind -/

/-- The length check of a body that is no TEXT's. -/
theorem lengthFits_of {kind n : Nat} (is : bodyU8 body 0 = kind) (length : body.length = n)
    (fits : (kind = 1 ∧ n = 15) ∨ (kind = 2 ∧ n = 20) ∨ (kind = 3 ∧ n = 12) ∨ (kind = 5 ∧ n = 4) ∨ (kind = 6 ∧ n = 2) ∨
      (kind = 7 ∧ n = 6)) : SubmitLengthFits body := by
  unfold SubmitLengthFits
  rw [is, length]
  refine ⟨by omega, by omega, by omega, fun text => by omega, by omega, by omega, by omega, by omega⟩

theorem fillInRange_of (is : bodyU8 body 0 = 1) (draws : SubmitDrawInRange body)
    (source : bodyU8 body 11 = 0 ∨ bodyU8 body 11 = 1) : SubmitFieldsInRange body := by
  unfold SubmitFieldsInRange
  rw [is]
  exact ⟨by omega, by omega, fun _ => ⟨draws, source⟩, nofun, nofun, nofun, nofun⟩

theorem blockInRange_of (is : bodyU8 body 0 = 2) (draws : SubmitDrawInRange body)
    (source : bodyU8 body 11 = 2 ∨ bodyU8 body 11 = 3) (sx : bodyU16 body 16 ≤ 2047) (sy : bodyU16 body 18 ≤ 2047) :
    SubmitFieldsInRange body := by
  unfold SubmitFieldsInRange
  rw [is]
  exact ⟨by omega, by omega, nofun, fun _ => ⟨draws, source, sx, sy⟩, nofun, nofun, nofun⟩

theorem loadInRange_of (is : bodyU8 body 0 = 3) (rect : SubmitRectInRange body) (fn : bodyU8 body 11 ≤ 15) :
    SubmitFieldsInRange body := by
  unfold SubmitFieldsInRange
  rw [is]
  exact ⟨by omega, by omega, nofun, nofun, fun _ => ⟨rect, fn⟩, nofun, nofun⟩

theorem textInRange_of (is : bodyU8 body 0 = 4) (font : bodyU8 body 3 ≤ 3) (ink : bodyU8 body 8 ≤ 3)
    (fn : bodyU8 body 9 ≤ 15) : SubmitFieldsInRange body := by
  unfold SubmitFieldsInRange
  rw [is]
  exact ⟨by omega, by omega, nofun, nofun, nofun, fun _ => ⟨font, ink, fn⟩, nofun⟩

theorem showInRange_of (is : bodyU8 body 0 = 5) (port : bodyU8 body 2 ≤ 1) (force : bodyU8 body 3 ≤ 1) :
    SubmitFieldsInRange body := by
  unfold SubmitFieldsInRange
  rw [is]
  exact ⟨by omega, by omega, nofun, nofun, nofun, nofun, fun _ => ⟨port, force⟩⟩

theorem bareInRange_of (is : bodyU8 body 0 = 6 ∨ bodyU8 body 0 = 7) : SubmitFieldsInRange body := by
  unfold SubmitFieldsInRange
  rcases is with is | is <;> rw [is] <;> exact ⟨by omega, by omega, nofun, nofun, nofun, nofun, nofun⟩

/-! ### The jobs as sent -/

section Jobs

variable {bytes rest : List Byte} {c pat src sx sy font ink label : Nat} {fn : BitVec 4} {pen base : Int} {codes : List Nat}
variable (hd : dest < 256) (hr : x ≤ 2047 ∧ y ≤ 2047 ∧ (1 ≤ w ∧ w ≤ 2048) ∧ 1 ≤ h ∧ h ≤ 2048)

include hd hr in
theorem fill_sent {source : Nat} {sk : SourceKind} (hc : c ≤ 3) (hp : pat ≤ 15) (known : source = 0 ∨ source = 1)
    (code : (if source = 0 then SourceKind.const else if source = 1 then .pattern else if source = 2 then .plane
      else .planeAndPattern) = sk)
    (is : drawBytes 1 flag dest x y w h source c pat fn.toNat [] = bytes) :
    ReadsAs flag bytes (.fill
      { dest := dest, rect := ⟨x, y, w, h⟩, source := sk, constant := BitVec.ofNat 2 c, pattern := pat, fn := fn }) := by
  obtain ⟨spells, draws, at11⟩ := draw_read hd hr hc hp (by omega) code is
  have kind : bodyU8 bytes 0 = 1 := is ▸ rfl
  exact sent_reads (lengthFits_of kind (is ▸ rfl : bytes.length = 15) (by omega))
    (fillInRange_of kind draws (by omega)) ((submitJob_fill kind).trans (by rw [spells])) (is ▸ rfl)

include hd hr in
theorem block_sent {source : Nat} {sk : SourceKind} (hc : c ≤ 3) (hp : pat ≤ 15) (known : source = 2 ∨ source = 3)
    (code : (if source = 0 then SourceKind.const else if source = 1 then .pattern else if source = 2 then .plane
      else .planeAndPattern) = sk)
    (hs : src < 256) (hsx : sx ≤ 2047) (hsy : sy ≤ 2047)
    (is : drawBytes 2 flag dest x y w h source c pat fn.toNat (itemU8 src ++ itemU16 sx ++ itemU16 sy) = bytes) :
    ReadsAs flag bytes (.block
      { dest := dest, rect := ⟨x, y, w, h⟩, source := sk, constant := BitVec.ofNat 2 c, pattern := pat, fn := fn }
      src sx sy) := by
  obtain ⟨spells, draws, at11⟩ := draw_read hd hr hc hp (by omega) code is
  have kind : bodyU8 bytes 0 = 2 := is ▸ rfl
  have fs : bodyU8 bytes 15 = src := is ▸ byte_read hs
  have fx : bodyU16 bytes 16 = sx := is ▸ word_read (n := sx) (by omega)
  have fy : bodyU16 bytes 18 = sy := is ▸ word_read (n := sy) (by omega)
  exact sent_reads (lengthFits_of kind (is ▸ rfl : bytes.length = 20) (by omega))
    (blockInRange_of kind draws (by omega) (by omega) (by omega))
    ((submitJob_block kind).trans (by rw [spells, fs, fx, fy])) (is ▸ rfl)

include hd hr in
theorem load_sent
    (is : BitVec.ofNat 8 3 :: BitVec.ofNat 8 flag :: BitVec.ofNat 8 dest ::
      (itemU16 x ++ itemU16 y ++ itemU16 w ++ itemU16 h ++ itemU8 fn.toNat) = bytes) :
    ReadsAs flag bytes (.load dest ⟨x, y, w, h⟩ fn 0 0) := by
  have low := fn.isLt
  obtain ⟨rect, inRange⟩ := rect_read (a := BitVec.ofNat 8 3) (b := BitVec.ofNat 8 flag) (d := BitVec.ofNat 8 dest)
    (rest := itemU8 fn.toNat) hr
  have kind : bodyU8 bytes 0 = 3 := is ▸ rfl
  have fd : bodyU8 bytes 2 = dest := is ▸ byte_read hd
  have ff : bodyU8 bytes 11 = fn.toNat := is ▸ byte_read (n := fn.toNat) (by omega)
  rw [is] at rect inRange
  refine sent_reads (lengthFits_of kind (is ▸ rfl : bytes.length = 12) (by omega))
    (loadInRange_of kind inRange (by omega)) ((submitJob_load kind).trans ?_) (is ▸ rfl)
  rw [fd, rect, ff, BitVec.ofNat_toNat, BitVec.setWidth_eq]

include hd in
theorem text_sent (hf : font ≤ 3) (hi : ink ≤ 3) (pen0 : -32768 ≤ pen) (pen1 : pen ≤ 32767) (base0 : -32768 ≤ base)
    (base1 : base ≤ 32767) (hk : ∀ k ∈ codes, k < 65536)
    (is : itemU8 4 ++ itemU8 flag ++ itemU8 dest ++ itemU8 font ++ itemS16 pen ++ itemS16 base ++ itemU8 ink ++
      itemU8 fn.toNat ++ codes.flatMap itemU16 = bytes) :
    jobFields bytes = some (.text dest font pen base (BitVec.ofNat 2 ink) fn codes) ∧
      (1 ≤ codes.length → codes.length ≤ 128 → SubmitLengthFits bytes ∧ (flag ≤ 1 → SubmitInRange bytes)) := by
  have low := fn.isLt
  have kind : bodyU8 bytes 0 = 4 := is ▸ rfl
  have report : bodyU8 bytes 1 = (BitVec.ofNat 8 flag).toNat := is ▸ rfl
  have fd : bodyU8 bytes 2 = dest := is ▸ byte_read hd
  have ffont : bodyU8 bytes 3 = font := is ▸ byte_read (n := font) (by omega)
  have fpen : bodyU16 bytes 4 = (pen % 65536).toNat := is ▸ word_read (n := (pen % 65536).toNat) (by omega)
  have fbase : bodyU16 bytes 6 = (base % 65536).toNat := is ▸ word_read (n := (base % 65536).toNat) (by omega)
  have fi : bodyU8 bytes 8 = ink := is ▸ byte_read (n := ink) (by omega)
  have ff : bodyU8 bytes 9 = fn.toNat := is ▸ byte_read (n := fn.toNat) (by omega)
  have behind : bytes.drop 10 = codes.flatMap itemU16 := is ▸ rfl
  have spells : submitJob bytes = .text dest font pen base (BitVec.ofNat 2 ink) fn codes := by
    refine ((if_neg (by omega)).trans ((if_neg (by omega)).trans ((if_neg (by omega)).trans (if_pos kind)))).trans ?_
    unfold submitText bodyS16
    rw [← submitCodes_eq, behind, codes_read hk, fd, ffont, fpen, fbase, signed_read pen0 pen1, signed_read base0 base1,
      fi, ff, BitVec.ofNat_toNat, BitVec.setWidth_eq]
  have fields : SubmitFieldsInRange bytes := textInRange_of kind (by omega) (by omega) (by omega)
  refine ⟨jobFields_iff.mpr ⟨fields, spells⟩, fun least most => ?_⟩
  have length : bytes.length = 10 + 2 * codes.length := by
    rw [← codes_length, ← is]
    exact Nat.add_comm _ 10
  have fits : SubmitLengthFits bytes := by
    unfold SubmitLengthFits
    rw [kind]
    exact ⟨nofun, nofun, nofun, fun _ => ⟨codes.length, least, most, length⟩, nofun, nofun, nofun, by omega⟩
  exact (sent_reads fits fields spells report).2

theorem show_sent {p : Port} {force : Bool}
    (is : [BitVec.ofNat 8 5, BitVec.ofNat 8 flag, BitVec.ofNat 8 (portCode p), BitVec.ofNat 8 (if force = true then 1 else 0)]
      = bytes) : ReadsAs flag bytes (.showPort p force) := by
  have kind : bodyU8 bytes 0 = 5 := is ▸ rfl
  have fp : bodyU8 bytes 2 = portCode p := is ▸ byte_read (by cases p <;> decide)
  have ff : bodyU8 bytes 3 = if force = true then 1 else 0 := is ▸ byte_read (by cases force <;> decide)
  refine sent_reads (lengthFits_of kind (is ▸ rfl : bytes.length = 4) (by omega))
    (showInRange_of kind (by rw [fp]; cases p <;> decide) (by rw [ff]; cases force <;> decide)) ?_ (is ▸ rfl)
  refine ((if_neg (by omega)).trans ((if_neg (by omega)).trans ((if_neg (by omega)).trans ((if_neg (by omega)).trans
    (if_pos kind))))).trans ?_
  rw [fp, ff]
  cases p <;> cases force <;> rfl

theorem pack_sent (is : [BitVec.ofNat 8 6, BitVec.ofNat 8 flag] = bytes) : ReadsAs flag bytes .pack := by
  have kind : bodyU8 bytes 0 = 6 := is ▸ rfl
  refine sent_reads (lengthFits_of kind (is ▸ rfl : bytes.length = 2) (by omega)) (bareInRange_of (.inl kind)) ?_
    (is ▸ rfl)
  unfold submitJob
  rw [kind]
  rfl

theorem mark_sent (hl : label < 4294967296)
    (is : BitVec.ofNat 8 7 :: BitVec.ofNat 8 flag :: (itemU16 (label / 65536) ++ itemU16 label) = bytes) :
    ReadsAs flag bytes (.mark label) := by
  have kind : bodyU8 bytes 0 = 7 := is ▸ rfl
  have high : bodyU16 bytes 2 = label / 65536 := is ▸ word_read (n := label / 65536) (by omega)
  have low : bodyU16 bytes 4 = label % 65536 := by
    refine (is ▸ rfl : bodyU16 bytes 4 = (BitVec.ofNat 8 (label / 256)).toNat * 256 + (BitVec.ofNat 8 label).toNat).trans ?_
    rw [BitVec.toNat_ofNat, BitVec.toNat_ofNat]
    omega
  refine sent_reads (lengthFits_of kind (is ▸ rfl : bytes.length = 6) (by omega)) (bareInRange_of (.inr kind)) ?_
    (is ▸ rfl)
  unfold submitJob
  rw [kind]
  refine (rfl : _ = JobBody.mark (bodyU16 bytes 2 * 65536 + bodyU16 bytes 4)).trans ?_
  rw [high, low, Nat.div_add_mod']

end Jobs

end Sent

/-- Settles O23: each body spells its job, field by field, and passes the checks of its kind. -/
theorem submitBodiesAreReadAsSent : Obligations.SubmitBodiesAreReadAsSent := by
  unfold Obligations.SubmitBodiesAreReadAsSent
  intro flag dest x y w h c pat src sx sy font ink label fn pen base codes p force hd hx hy w1 hw h1 hh hc hp hs hsx hsy
    hf hi hl pen0 pen1 base0 base1 hk
  have hr : x ≤ 2047 ∧ y ≤ 2047 ∧ (1 ≤ w ∧ w ≤ 2048) ∧ 1 ≤ h ∧ h ≤ 2048 := ⟨hx, hy, ⟨w1, hw⟩, h1, hh⟩
  exact ⟨fill_sent hd hr hc hp (.inl rfl) rfl rfl, fill_sent hd hr hc hp (.inr rfl) rfl rfl,
    block_sent hd hr hc hp (.inl rfl) rfl hs hsx hsy rfl, block_sent hd hr hc hp (.inr rfl) rfl hs hsx hsy rfl,
    load_sent hd hr rfl, text_sent hd hf hi pen0 pen1 base0 base1 hk rfl, show_sent rfl, pack_sent rfl, mark_sent hl rfl⟩

end Sys2Proof.Machine
end

section
/-! GLYPH's checks and the glyph appended (O43). -/

namespace Sys2Proof.Machine

set_option Elab.async false

section GlyphSent

variable {s : State} {tag : Byte} {body : List Byte} {before after : List Slot}

/-- The glyph that a GLYPH's fields describe, with its bitmap at an offset. -/
def sentGlyph (i c1 c0 w h adv x1 x0 y1 y0 : Byte) (length offset : Nat) : Glyph :=
  { font := i.toNat, code := c1.toNat * 256 + c0.toNat, width := w.toNat, height := h.toNat, advance := adv.toNat,
    xOffset := if x1.toNat < 128 then ((x1.toNat * 256 + x0.toNat : Nat) : Int) else (x1.toNat * 256 + x0.toNat : Nat) - 65536
    yOffset := if y1.toNat < 128 then ((y1.toNat * 256 + y0.toNat : Nat) : Int) else (y1.toNat * 256 + y0.toNat : Nat) - 65536
    offset := offset, length := length }

/-- A signed field's sign is its most significant byte's. -/
theorem signed_eq (a b : Byte) :
    (if a.toNat * 256 + b.toNat < 32768 then ((a.toNat * 256 + b.toNat : Nat) : Int)
      else ((a.toNat * 256 + b.toNat : Nat) : Int) - 65536) =
      if a.toNat < 128 then ((a.toNat * 256 + b.toNat : Nat) : Int) else (a.toNat * 256 + b.toNat : Nat) - 65536 := by
  have low := b.isLt
  exact if_congr (by omega) rfl rfl

theorem glyphOfBody_sent (i c1 c0 w h adv x1 x0 y1 y0 : Byte) (bitmap : List Byte) (offset : Nat) :
    glyphOfBody ([i, c1, c0, w, h, adv, x1, x0, y1, y0] ++ bitmap) offset =
      sentGlyph i c1 c0 w h adv x1 x0 y1 y0 bitmap.length offset := by
  unfold sentGlyph
  rw [← signed_eq x1 x0, ← signed_eq y1 y0]
  rfl

theorem glyphFieldsOk_iff {g : Glyph} :
    glyphFieldsOk g = true ↔
      g.font ≤ 3 ∧ 1 ≤ g.width ∧ g.width ≤ 64 ∧ 1 ≤ g.height ∧ g.height ≤ 128 ∧ -64 ≤ g.xOffset ∧ g.xOffset ≤ 63 ∧
        -128 ≤ g.yOffset ∧ g.yOffset ≤ 127 := by
  unfold glyphFieldsOk
  simp only [Bool.and_eq_true, decide_eq_true_eq, and_assoc]

theorem NextRequest.exec_glyph {u : State} (hn : NextRequest s kindGlyph tag body before after)
    (is : glyphRequest body (s.taken kindGlyph tag body before after) = u) : exec .glyph s = .next u.transmit :=
  congrArg Host.Outcome.next ((hn.serve glyphRequest).trans (congrArg State.transmit is))

/-- The checks of a GLYPH that has its fixed fields, in their order (R91). -/
theorem glyphRequest_eq (t : State) (i c1 c0 w h adv x1 x0 y1 y0 : Byte) (bitmap : List Byte) {g : Glyph}
    (is : sentGlyph i c1 c0 w h adv x1 x0 y1 y0 bitmap.length (t.font i.toNat).usedBytes = g) :
    glyphRequest ([i, c1, c0, w, h, adv, x1, x0, y1, y0] ++ bitmap) t =
      if glyphFieldsOk g = false then t.refuse .badValue
      else if ¬ bitmap.length = bitmapLength g.width g.height then t.refuse .badLength
      else if (t.font g.font).state = .undefined then t.refuse .noSuchFont
      else if t.packActive = true then t.refuse .packing
      else if (t.font g.font).freeBytes < bitmap.length then
        t.answer { status := .fontFull, items := itemU16 (t.font g.font).freeBytes }
      else if (findGlyph t.glyphs g.font g.code).isNone = true ∧ 512 ≤ t.glyphs.length then
        t.answer { status := .glyphTableFull, items := itemU16 t.glyphs.length }
      else
        (t.appendGlyph g bitmap).answer
          { status := .ok,
            items := itemU8 g.font ++ itemU16 g.code ++ itemU16 ((t.font g.font).freeBytes - bitmap.length) } := by
  have sent := glyphOfBody_sent i c1 c0 w h adv x1 x0 y1 y0 bitmap (t.font i.toNat).usedBytes
  have long : ([i, c1, c0, w, h, adv, x1, x0, y1, y0] ++ bitmap).length = bitmap.length + 10 := rfl
  unfold glyphRequest
  dsimp only
  rw [show fieldU8 ([i, c1, c0, w, h, adv, x1, x0, y1, y0] ++ bitmap) 0 = i.toNat from rfl, sent, is, long,
    Nat.add_sub_cancel, if_neg (by omega)]
  rfl

/-- The font's record behind an append: its glyph count rises where no glyph of the code was known (R92). -/
theorem Font.withGlyph_eq (f : Font) (length : Nat) (glyphs : List Glyph) (font code : Nat) :
    f.withGlyph length (findGlyph glyphs font code).isNone =
      { f with
        usedBytes := f.usedBytes + length
        glyphCount := f.glyphCount +
          (if glyphs.any (fun e => e.font == font && e.code == code) = true then 0 else 1) } := by
  have known : glyphs.any (fun e => e.font == font && e.code == code) = !(findGlyph glyphs font code).isNone := by
    unfold findGlyph
    rw [Option.not_isNone, List.isSome_find?]
  unfold Font.withGlyph
  rw [known]
  cases (findGlyph glyphs font code).isNone <;> rfl

end GlyphSent

/-- Settles O43: the checks in their order, and what the append leaves of memory, font and index. -/
theorem glyphIsCheckedAndAppended : Obligations.GlyphIsCheckedAndAppended := by
  unfold Obligations.GlyphIsCheckedAndAppended
  refine ⟨fun s tag body before after hn short => ?_,
    fun s tag i c1 c0 w h adv x1 x0 y1 y0 bitmap before after hn law => ?_⟩
  · exact hn.exec_glyph ((if_pos short).trans (hn.refuse .badLength))
  · obtain ⟨-, ordered, -, -⟩ := law
    let g := sentGlyph i c1 c0 w h adv x1 x0 y1 y0 bitmap.length (s.font i.toNat).usedBytes
    let body := [i, c1, c0, w, h, adv, x1, x0, y1, y0] ++ bitmap
    have rule := glyphRequest_eq (s.taken kindGlyph tag body before after) i c1 c0 w h adv x1 x0 y1 y0 bitmap
      (g := g) rfl
    have inRange := glyphFieldsOk_iff (g := g)
    have unknown := findGlyph_isNone (l := s.glyphs) (font := g.font) (code := g.code)
    have ranged {v : State} (ok : glyphFieldsOk g = true) (rest : _ = v) :=
      rule.trans ((if_neg (by rw [ok]; nofun)).trans rest)
    have sized {v : State} (ok : glyphFieldsOk g = true) (fits : bitmap.length = bitmapLength g.width g.height)
        (rest : _ = v) := ranged ok ((if_neg (not_not_intro fits)).trans rest)
    have ready {v : State} (ok : glyphFieldsOk g = true) (fits : bitmap.length = bitmapLength g.width g.height)
        (defined : (s.font g.font).state = .defined) (free : s.packActive = false) (rest : _ = v) :=
      sized ok fits ((if_neg fun none => nomatch none.symm.trans defined).trans
        ((if_neg (show ¬ s.packActive = true from Bool.eq_false_iff.mp free)).trans rest))
    refine ⟨fun out => hn.exec_glyph (rule.trans ((if_pos ?_).trans (hn.refuse .badValue))),
      fun ok long => hn.exec_glyph (ranged (inRange.mpr ok) ((if_pos long).trans (hn.refuse .badLength))),
      fun ok fits none => hn.exec_glyph (sized (inRange.mpr ok) fits ((if_pos none).trans (hn.refuse .noSuchFont))),
      fun ok fits defined pack => hn.exec_glyph (sized (inRange.mpr ok) fits ((if_neg ?_).trans ((if_pos pack).trans
        (hn.refuse .packing)))),
      fun ⟨ok, fits, defined, free⟩ full => ?_, fun ⟨ok, fits, defined, free⟩ room fresh many => ?_,
      fun ⟨ok, fits, defined, free⟩ room known => ?_⟩
    · exact Bool.eq_false_iff.mpr (mt inRange.mp out)
    · exact fun undefined => nomatch undefined.symm.trans defined
    · exact hn.exec_glyph (ready (inRange.mpr ok) fits defined free ((if_pos full).trans (hn.answerAtOnce _)))
    · have none : (findGlyph s.glyphs g.font g.code).isNone = true :=
        unknown.mpr fun r mem same => fresh ⟨r, mem, same⟩
      exact hn.exec_glyph (ready (inRange.mpr ok) fits defined free
        ((if_neg (Nat.not_lt.mpr room)).trans ((if_pos ⟨none, many⟩).trans (hn.answerAtOnce _))))
    · have kept : ¬ ((findGlyph s.glyphs g.font g.code).isNone = true ∧ 512 ≤ s.glyphs.length) := by
        rintro ⟨none, many⟩
        rcases known with ⟨r, mem, same⟩ | few
        · exact unknown.mp none r mem same
        · omega
      have appended := hn.exec_glyph (ready (inRange.mpr ok) fits defined free
        ((if_neg (Nat.not_lt.mpr room)).trans ((if_neg kept).trans (hn.answer _ rfl))))
      refine ⟨s.appendGlyph g bitmap, appended.trans ?_, rfl, fun a => s.readByte_writeBytes _ bitmap a, fun id => ?_,
        placeGlyph_ordered ordered, fun r => mem_placeGlyph ordered⟩
      · refine congrArg (fun items => Host.Outcome.next (State.transmit ((s.appendGlyph g bitmap).replied kindGlyph tag
          { status := .ok, items := items } before after))) ?_
        exact congrArg₂ (· ++ ·) (congrArg₂ (· ++ ·) (itemU8_toNat i) (itemU16_joined c1 c0)) rfl
      · refine (State.font_setFont _ id g.font _ ok.1).trans (if_congr Iff.rfl ?_ rfl)
        exact Font.withGlyph_eq _ _ _ _ _

end Sys2Proof.Machine
end

section
/-! EXTENT_MOVE: what PACK's move leaves, and how it goes on (O41). -/

namespace Sys2Proof.Machine

set_option Elab.async false

section Moved

variable {s : State} {x : OwnedExtent} {t : Nat} {j : Job} {rest : List Job}

/-- A byte after a move: those of the extent stand at its target, and the others stay (R19). -/
theorem State.readByte_moveExtent (s : State) (x : OwnedExtent) (t a : Nat) :
    (s.moveExtent x t).readByte a =
      if 256 * t ≤ a ∧ a < 256 * (t + x.extent.count) then s.readByte (a + 256 * x.extent.first - 256 * t)
      else s.readByte a := by
  have copied : (s.moveExtent x t).readByte a = (s.copyBytes (256 * x.extent.first) (256 * t) (256 * x.extent.count)).readByte a := by
    unfold State.moveExtent State.relocate
    split
    · exact State.readByte_congr (State.setPlane_mem ..) (State.setPlane_powerOns ..) a
    · rfl
  rw [copied, State.readByte_copyBytes]
  by_cases inside : 256 * t ≤ a ∧ a < 256 * (t + x.extent.count)
  · rw [if_pos inside, if_pos (by omega)]
    congr 1
    omega
  · rw [if_neg inside, if_neg (by omega)]

/-- A move writes its owner's record alone (R19). -/
theorem State.moveExtent_records (hm : s.nextMove = some (x, t)) :
    (∀ h, (s.moveExtent x t).plane h =
      if x.owner = .plane h then { s.plane h with extent := ⟨t, x.extent.count⟩ } else s.plane h) ∧
    (∀ i, (s.moveExtent x t).font i =
      if x.owner = .font i then { s.font i with extent := ⟨t, x.extent.count⟩ } else s.font i) := by
  unfold State.moveExtent State.relocate
  obtain ⟨k, ⟨low, high⟩, -, rfl⟩ | ⟨i, small, -, rfl⟩ := mem_allocated.mp (mem_allocatedInOrder.mp (firstToMove_mem hm))
  · refine ⟨fun h => ?_, fun i => ?_⟩
    · rw [State.plane_setPlane _ h k _ low high]
      by_cases is : h = k
      · subst is
        rw [if_pos rfl, if_pos rfl]
        rfl
      · rw [if_neg is, if_neg fun same => is (ExtentOwner.plane.inj same).symm]
        rfl
    · rw [if_neg nofun]
      exact State.font_congr (State.setPlane_fonts ..) i
  · refine ⟨fun h => (if_neg nofun).symm, fun h => ?_⟩
    rw [State.font_setFont _ h i _ small]
    by_cases is : h = i
    · subst is
      rw [if_pos rfl, if_pos rfl]
      rfl
    · rw [if_neg is, if_neg fun same => is (ExtentOwner.font.inj same).symm]
      rfl

theorem State.moveExtent_freeList (s : State) (x : OwnedExtent) (t : Nat) :
    (s.moveExtent x t).freeList = freeAfterMove s.freeList x.extent.first x.extent.count t := by
  unfold State.moveExtent State.relocate
  split
  · exact State.setPlane_freeList ..
  · rfl

/-- The free blocks after a move, those that the extent now has left out (R19). -/
theorem StoreLaw.freeBlock_moved (law : StoreLaw s) (hm : s.nextMove = some (x, t)) (b : Nat) :
    freeBlock (s.moveExtent x t).freeList b ↔
      (∃ e ∈ s.freeList, blockIn e b ∧ ¬ (t ≤ b ∧ b < t + x.extent.count)) ∨
        (t + x.extent.count ≤ b ∧ b < x.extent.first + x.extent.count) := by
  obtain ⟨-, accounted, -⟩ := storeLaw_iff.mp law
  obtain ⟨room, gap⟩ := law.freeGap hm
  have taken (within : x.extent.first ≤ b ∧ b < x.extent.first + x.extent.count) : ¬ freeBlock s.freeList b :=
    accounted.unfree _ _ b (State.nextMove_held hm) within
  have vacant (within : t ≤ b ∧ b < x.extent.first) : freeBlock s.freeList b :=
    ⟨_, gap, by simp only [blockIn]; omega⟩
  have split : (∃ e ∈ s.freeList, blockIn e b ∧ ¬ (t ≤ b ∧ b < t + x.extent.count)) ↔
      freeBlock s.freeList b ∧ ¬ (t ≤ b ∧ b < t + x.extent.count) :=
    ⟨fun ⟨e, mem, is, out⟩ => ⟨⟨e, mem, is⟩, out⟩, fun ⟨⟨e, mem, is⟩, out⟩ => ⟨e, mem, is, out⟩⟩
  rw [s.moveExtent_freeList, law.freeBlock_move hm, split]
  by_cases free : freeBlock s.freeList b
  · have out := mt taken (not_not_intro free)
    simp only [free, true_and]
    omega
  · have out := mt vacant free
    simp only [free, false_and, false_or]

/-- EXTENT_MOVE by a PACK that holds the layout lock and has an extent to move. -/
theorem exec_extentMove (hj : s.jobs = j :: rest) (pack : j.body = .pack) (active : j.state = .active)
    (lock : s.layoutLock = true) (hm : s.nextMove = some (x, t)) :
    exec .extentMove s = .next (s.extentMoved j x t).transmit := by
  refine (rfl : _ = execExtentMove s).trans ?_
  unfold execExtentMove
  rw [hj, hm]
  exact if_pos ⟨(State.packActive_head hj).mpr ⟨pack, active⟩, lock⟩

end Moved

/-- Settles O41: the move by its parts, and what follows it by what is pending and what is left to move. -/
theorem extentMoveCopiesTheExtentDown : Obligations.ExtentMoveCopiesTheExtentDown := by
  unfold Obligations.ExtentMoveCopiesTheExtentDown
  intro s j rest x t hj pack active lock hm law
  have row := exec_extentMove hj pack active lock hm
  have jobs : (s.moveExtent x t).jobs = j :: rest := by rw [s.moveExtent_frame, ← hj]
  have is := State.setHead_eq jobs j.nextRow
  have frame := s.moveExtent_frame x t
  obtain ⟨planes, fonts⟩ := State.moveExtent_records hm
  let moved := (s.moveExtent x t).setHead j.nextRow
  have is : moved = { s.moveExtent x t with jobs := j.nextRow :: rest } := State.setHead_eq jobs j.nextRow
  have link : moved.link = s.link := s.moveExtent_link x t
  have pending : moved.stopPending = s.stopPending := by
    unfold State.stopPending
    rw [link]
  have stops {w : Work} {u : State} (work : s.link.work = some w) (stop : moved.stopPending = true)
      (after : moved.stopAtBoundary j.nextRow = u) : exec .extentMove s = .next u.transmit := by
    refine row.trans (congrArg (fun t : State => Host.Outcome.next t.transmit) ((if_pos stop).trans after))
  have goesOn {u : State} (quiet : s.stopPending = false)
      (after : (if (moved.packProceed j.nextRow).2 = true then (moved.packProceed j.nextRow).1.examine
        else (moved.packProceed j.nextRow).1) = u) : exec .extentMove s = .next u.transmit := by
    refine row.trans (congrArg (fun t : State => Host.Outcome.next t.transmit) ((if_neg ?_).trans after))
    rw [← pending] at quiet
    exact Bool.eq_false_iff.mp quiet
  refine ⟨moved, ?_, (law.freeGap hm).1, fun a => s.readByte_moveExtent x t a, planes, fonts, law.freeBlock_moved hm,
    fun quiet ⟨m, more⟩ => goesOn quiet ?_, fun quiet none => goesOn quiet ?_, fun k work => ?_,
    fun count first last work => ?_, fun work engine ports => ?_⟩
  · rw [is, frame]
    rfl
  · unfold State.packProceed
    rw [more]
    rfl
  · unfold State.packProceed
    rw [none]
    rfl
  · have work' : moved.link.work = some (.cancel k) := link ▸ work
    exact stops work (by simp [State.stopPending, work']) (State.stopAtBoundary_cancel work')
  · have work' : moved.link.work = some (.flush count first last) := link ▸ work
    exact stops work (by simp [State.stopPending, work']) (State.stopAtBoundary_flush work')
  · have work' : moved.link.work = some .engineStopping := link ▸ work
    have same : PlaneLaw moved := by
      refine PlaneLaw.counted engine.2 hj (by rw [is]) link fun h => ?_
      rw [show moved.plane h = (s.moveExtent x t).plane h from rfl, planes h]
      split
      · next owner =>
        refine ⟨rfl, rfl, rfl, fun free => ?_⟩
        have held := State.nextMove_held hm
        rw [owner, State.holding_of_free free] at held
        cases held
      · exact ⟨rfl, rfl, rfl, fun _ => rfl⟩
    have kept : PortsLaw moved := by
      refine ports.congr ?_ ?_ (congrArg Link.work link) <;> rw [is, frame]
    exact ⟨_, stops work (by simp [State.stopPending, work']) rfl,
      State.stopAtBoundary_resetDone work' engine hj (by rw [is]) link same kept⟩

end Sys2Proof.Machine
end

section
/-! Rows drawn and planes filled, pixel by pixel (O22, O18). -/

namespace Sys2Proof.Machine

set_option Elab.async false

section Pixels

variable {s : State} {p : Plane} {h x w y : Nat} {g : Nat → Px → Px}

/-- The bytes of a plane's rows are apart: an address below a row's end says the row and the byte. -/
theorem Plane.rowAddr_inj {b c k : Nat} (hb : b < p.stride) (hc : c < p.stride)
    (same : p.rowAddr k + c = p.rowAddr y + b) : k = y ∧ c = b := by
  have sums : c + k * p.stride = b + y * p.stride := by
    unfold Plane.rowAddr at same
    omega
  have positive : 0 < p.stride := by omega
  have rows := congrArg (· / p.stride) sums
  simp only [Nat.add_mul_div_right _ _ positive, Nat.div_eq_of_lt hb, Nat.div_eq_of_lt hc, Nat.zero_add] at rows
  subst rows
  exact ⟨rfl, Nat.add_right_cancel sums⟩

/-- A row has as many bytes as its pixels fill. -/
theorem Plane.width_eq (shaped : p.shaped) : p.width = p.stride * pixelsPerByte p.depth := by
  obtain ⟨depth | depth, whole, stride⟩ := shaped
  · rw [stride, depth]
    show p.width = p.width * 1 / 8 * 8
    omega
  · rw [stride, depth]
    show p.width = p.width * 2 / 8 * 4
    omega

theorem pixelsPerByte_pos (depth : Nat) : 0 < pixelsPerByte depth := by
  unfold pixelsPerByte
  split <;> omega

/-- The byte of a column stands in its row. -/
theorem Plane.column_lt {i : Nat} (shaped : p.shaped) (inside : i < p.width) : i / pixelsPerByte p.depth < p.stride := by
  rw [Plane.width_eq shaped] at inside
  exact Nat.div_lt_of_lt_mul (by rwa [Nat.mul_comm])

/-- The bytes that columns x to x + w − 1 touch are those from x's to the one before x + w, rounded up. -/
theorem column_touched {n i : Nat} (positive : 0 < n) (inside : x ≤ i ∧ i < x + w) :
    x / n ≤ i / n ∧ i / n < (x + w + n - 1) / n := by
  refine ⟨Nat.div_le_div_right inside.1, ?_⟩
  have next : (i + n) / n = i / n + 1 := Nat.add_div_right i positive
  have below : (i + n) / n ≤ (x + w + n - 1) / n := Nat.div_le_div_right (by omega)
  omega

/-- A byte outside the bytes a row's columns touch is as it was. -/
theorem State.readByte_drawRow (s : State) (h x w y : Nat) (g : Nat → Px → Px) (a : Nat) :
    (s.drawRow h x w y g).readByte a =
      if (s.plane h).rowAddr y + x / pixelsPerByte (s.plane h).depth ≤ a ∧
          a < (s.plane h).rowAddr y + (x + w + pixelsPerByte (s.plane h).depth - 1) / pixelsPerByte (s.plane h).depth then
        s.drawnByte h x w y g (a - (s.plane h).rowAddr y)
      else s.readByte a := by
  generalize hn : pixelsPerByte (s.plane h).depth = n
  have positive : 0 < n := hn ▸ pixelsPerByte_pos _
  have order : x / n ≤ (x + w + n - 1) / n := Nat.div_le_div_right (by omega)
  unfold State.drawRow
  dsimp only
  rw [hn, State.readByte_writeBytes, List.length_map, List.length_range']
  generalize x / n = first at order ⊢
  generalize (x + w + n - 1) / n = behind at order ⊢
  by_cases inside : (s.plane h).rowAddr y + first ≤ a ∧ a < (s.plane h).rowAddr y + behind
  · rw [if_pos (by omega), if_pos inside, List.getD_eq_getElem _ _ (by simp; omega), List.getElem_map, List.getElem_range']
    congr 1
    omega
  · rw [if_neg (by omega), if_neg inside]

theorem State.pixelOfByte_flat {depth : Nat} (flat : ¬ depth = 2) (b : Byte) (i : Nat) : (pixelOfByte depth b i).toNat ≤ 1 := by
  unfold pixelOfByte
  rw [if_neg flat, BitVec.toNat_ofNat]
  omega

/-- A pixel of a drawn byte: the function of the old pixel in the row's columns, and the old pixel beside them. -/
theorem State.pixel_drawnByte {i : Nat} (room : ∀ i v, ¬ (s.plane h).depth = 2 → (g i v).toNat ≤ 1) :
    pixelOfByte (s.plane h).depth (s.drawnByte h x w y g (i / pixelsPerByte (s.plane h).depth))
        (i % pixelsPerByte (s.plane h).depth) =
      if x ≤ i ∧ i < x + w then g i (s.pixel h i y) else s.pixel h i y := by
  have column : i / pixelsPerByte (s.plane h).depth * pixelsPerByte (s.plane h).depth + i % pixelsPerByte (s.plane h).depth = i :=
    Nat.div_add_mod' ..
  unfold State.drawnByte
  dsimp only
  rw [pixelOfByte_packByte _ (Nat.mod_lt i (pixelsPerByte_pos _)), column]
  · rfl
  · intro flat
    split
    · exact room _ _ flat
    · exact State.pixelOfByte_flat flat _ _

/-- A value in every byte of a plane's rows is the value of every pixel (R11). -/
theorem State.pixel_fillPlane {v : Px} {i k : Nat} (shaped : (s.plane h).shaped) (room : ¬ (s.plane h).depth = 2 → v.toNat ≤ 1)
    (inRow : i < (s.plane h).width) (row : k < (s.plane h).height) : (s.fillPlane h v).pixel h i k = v := by
  have byte := Plane.column_lt shaped inRow
  have below : (s.plane h).stride * k + i / pixelsPerByte (s.plane h).depth < (s.plane h).stride * (s.plane h).height := by
    calc
      _ < (s.plane h).stride * k + (s.plane h).stride := Nat.add_lt_add_left byte _
      _ = (s.plane h).stride * (k + 1) := rfl
      _ ≤ (s.plane h).stride * (s.plane h).height := Nat.mul_le_mul_left _ row
  have start : (s.plane h).rowAddr k = (s.plane h).rowAddr 0 + (s.plane h).stride * k := by
    unfold Plane.rowAddr
    rw [Nat.zero_mul, Nat.mul_comm k, Nat.add_zero]
  have read : (s.fillPlane h v).readByte ((s.plane h).rowAddr k + i / pixelsPerByte (s.plane h).depth) =
      fillByte (s.plane h).depth v := by
    unfold State.fillPlane
    dsimp only
    rw [State.readByte_writeBytes, List.length_replicate, start, Nat.add_assoc,
      if_pos ⟨Nat.le_add_right _ _, Nat.add_lt_add_left below _⟩, Nat.add_sub_cancel_left, List.getD_replicate _ below]
  refine (congrArg (fun b => pixelOfByte (s.plane h).depth b (i % pixelsPerByte (s.plane h).depth)) read).trans ?_
  exact pixelOfByte_packByte _ (Nat.mod_lt i (pixelsPerByte_pos _)) room

end Pixels

/-- Settles O22: a pixel is read from its byte, which the row wrote or did not, and a byte written holds each of its pixels. -/
theorem drawnRowReplacesExactlyItsPixels : Obligations.DrawnRowReplacesExactlyItsPixels := by
  unfold Obligations.DrawnRowReplacesExactlyItsPixels
  intro s h x w y g shaped some inside room
  have flat (i : Nat) (v : Px) (is : ¬ (s.plane h).depth = 2) : (g i v).toNat ≤ 1 := room i v (shaped.1.resolve_right is)
  refine ⟨rfl, fun i k inRow => ?_, fun a out => ?_⟩
  · have column := Plane.column_lt shaped inRow
    have last : (x + w + pixelsPerByte (s.plane h).depth - 1) / pixelsPerByte (s.plane h).depth ≤ (s.plane h).stride := by
      rw [Plane.width_eq shaped] at inside
      exact Nat.le_of_lt_succ (Nat.div_lt_of_lt_mul (by
        have := pixelsPerByte_pos (s.plane h).depth
        rw [Nat.mul_succ, Nat.mul_comm]
        omega))
    have read := s.readByte_drawRow h x w y g ((s.plane h).rowAddr k + i / pixelsPerByte (s.plane h).depth)
    refine (congrArg (fun b => pixelOfByte (s.plane h).depth b (i % pixelsPerByte (s.plane h).depth)) read).trans ?_
    by_cases row : k = y
    · subst row
      simp only [Nat.add_sub_cancel_left, Nat.add_le_add_iff_left, Nat.add_lt_add_iff_left, true_and]
      split
      · exact State.pixel_drawnByte flat
      · next untouched =>
        exact (if_neg fun within => untouched (column_touched (pixelsPerByte_pos _) within)).symm
    · refine (congrArg (fun b => pixelOfByte _ b _) (if_neg ?_)).trans (if_neg fun within => row within.1).symm
      rintro ⟨least, below⟩
      have first : (s.plane h).rowAddr y ≤ (s.plane h).rowAddr k + i / pixelsPerByte (s.plane h).depth :=
        (Nat.le_add_right _ _).trans least
      exact row (Plane.rowAddr_inj (b := (s.plane h).rowAddr k + i / pixelsPerByte (s.plane h).depth - (s.plane h).rowAddr y)
        (by omega) column (by omega)).1
  · rw [State.readByte_drawRow, if_neg]
    rintro ⟨least, below⟩
    exact out.elim (Nat.not_lt.mpr least) (Nat.not_le.mpr below)

/-- Settles O18: the fill's bytes hold the value in each pixel, and its reply finds its slot or none. -/
theorem fillEndWritesEveryPixel : Obligations.FillEndWritesEveryPixel := by
  unfold Obligations.FillEndWritesEveryPixel
  intro s k v work shaped room
  have step : exec .newPlaneFillEnd s = .next (s.endFill k v).transmit := by
    refine (rfl : _ = execNewPlaneFillEnd s).trans ?_
    unfold execNewPlaneFillEnd
    rw [work]
  refine ⟨s.fillPlane k v, rfl, fun x y inRow row => ?_, fun a out => ?_, fun tag body before after slots others => ?_,
    fun none => ?_⟩
  · exact State.pixel_fillPlane shaped (fun flat => room (shaped.1.resolve_right flat)) inRow row
  · have base : (s.plane k).rowAddr 0 = 256 * (s.plane k).extent.first := by
      unfold Plane.rowAddr
      rw [Nat.zero_mul]
      rfl
    unfold State.fillPlane
    dsimp only
    rw [State.readByte_writeBytes, List.length_replicate, base, if_neg]
    rintro ⟨least, below⟩
    exact out.elim (Nat.not_lt.mpr least) (Nat.not_le.mpr below)
  · rw [step]
    unfold State.endFill
    dsimp only
    rw [answer_eq (t := s.fillPlane k v) _ others slots]
  · rw [step]
    unfold State.endFill
    dsimp only
    rw [answer_discarded (t := s.fillPlane k v) _ none]
    rfl

end Sys2Proof.Machine
end
